-- ==== Sys2Proof/Word.lean ====
section
/-! DEFINITION. The word types of the link frame (R166, R171) and of the sensor codes (R115). -/

namespace Sys2Proof

/-- One byte of a link frame or of a warp frame. -/
abbrev Byte := BitVec 8
/-- A two-byte field (R171). -/
abbrev Half := BitVec 16
/-- A four-byte field (R171). -/
abbrev Long := BitVec 32
/-- A 12-bit conversion code, 0 to 4095 (R115). -/
abbrev Code12 := BitVec 12

end Sys2Proof
end

