-- ==== Sys2Proof/Syntax.lean ====
section
/-! DEFINITION. The names of the manual's sets, the requests of R171 with their payload fields, and `Instr`:
one constructor per row of spec/opcode_table.json. A request row carries the port and the TAG of its frame (R166). -/

namespace Sys2Proof

/-! ### The sets the commands name -/

/-- The two serial ports (R165). MAIN has OPERATOR level, SERVICE has SERVICE level. -/
inductive Port where
  | main | service
  deriving DecidableEq, Repr, Inhabited

/-- The four lens axes, numbered HSH 0 to FOC 3 (R171). -/
inductive Axis where
  | hsh | vsh | zom | foc
  deriving DecidableEq, Repr, Inhabited

/-- The three fans (chapter 8). -/
inductive Fan where
  | fan0 | fan1 | fan2
  deriving DecidableEq, Repr, Inhabited

/-- The nine drive channels (chapter 2): CH0 to CH7 the lens coils in pairs, CH8 the brake solenoid. -/
inductive Chan where
  | ch0 | ch1 | ch2 | ch3 | ch4 | ch5 | ch6 | ch7 | ch8
  deriving DecidableEq, Repr, Inhabited

/-- One value for each axis. -/
structure PerAxis (α : Type) where
  hsh : α
  vsh : α
  zom : α
  foc : α
  deriving DecidableEq, Repr, Inhabited

/-- One value for each fan. -/
structure PerFan (α : Type) where
  fan0 : α
  fan1 : α
  fan2 : α
  deriving DecidableEq, Repr, Inhabited

/-- One value for each drive channel. -/
structure PerChan (α : Type) where
  ch0 : α
  ch1 : α
  ch2 : α
  ch3 : α
  ch4 : α
  ch5 : α
  ch6 : α
  ch7 : α
  ch8 : α
  deriving DecidableEq, Repr, Inhabited

/-- One value for each of the six thermistor channels (R143). -/
structure PerThermo (α : Type) where
  lsb : α
  img : α
  lns : α
  ain : α
  aex : α
  psu : α
  deriving DecidableEq, Repr, Inhabited

/-- One value for each of the ten sensor channels, A0 to A7, DIE and RAIL (chapter 7). -/
structure PerSensor (α : Type) where
  thermo : PerThermo α
  tlx : α
  tlz : α
  die : α
  rail : α
  deriving DecidableEq, Repr, Inhabited

/-! ### Payload structures wider than a few fields -/

/-- The settings record of AXIS_CONFIG_SET after the axis byte, in the order of R3's table (28 bytes with the axis). -/
structure AxisConfigWire where
  travelMin : Long
  travelMax : Long
  refPos : Long
  run : Half
  hold : Half
  accel : Long
  stall : Byte
  approach : Byte
  takeup : Half
  idle : Byte
  settle : Half
  deriving DecidableEq, Repr, Inhabited

/-- One curve point of FAN_CONFIG_SET (R131, R140). -/
structure PointWire where
  temp : Half
  duty : Half
  deriving DecidableEq, Repr, Inhabited

/-- The five points of a fan curve (R131). -/
structure CurveWire where
  p1 : PointWire
  p2 : PointWire
  p3 : PointWire
  p4 : PointWire
  p5 : PointWire
  deriving DecidableEq, Repr, Inhabited

/-- WARN, HIGH and CRIT of one sensor in THERMAL_LIMIT_SET (R154). -/
structure LimitWire where
  warn : Half
  high : Half
  crit : Half
  deriving DecidableEq, Repr, Inhabited

/-- The payload of THERMAL_LIMIT_SET: six sensors and the shared hysteresis (R154). -/
structure LimitsWire where
  sensors : PerThermo LimitWire
  hyst : Half
  deriving DecidableEq, Repr, Inhabited

/-! ### The requests of R171 -/

/-- A checked frame's KIND and payload as LNK reads them (R169): a request of R171 with its fields as raw as the
frame carries them, or a frame whose KIND or payload size LNK itself answers. -/
inductive Request where
  | identGet
  | statusGet
  | alertMaskSet (mask : Byte)
  | alertClear
  | noticeMaskSet (mask : Byte)
  | reset
  | axisMove (axis : Byte) (target : Long) (speed : Byte)
  | axisJog (axis : Byte) (count : Long) (speed : Byte)
  | axisStop (axis : Byte)
  | axisHome (axis : Byte)
  | axisConfigSet (axis : Byte) (cfg : AxisConfigWire)
  | axisConfigGet (axis : Byte)
  | axisClear (axis : Byte)
  | brakeClear
  | calibrate
  | permitSet (map : Byte)
  | brakeSet (action : Byte)
  | presetStore (slot mask geometry : Byte) (label : List Byte)
  | presetRecall (slot : Byte)
  | presetGet (slot : Byte)
  | presetErase (slot : Byte)
  | historyBack
  | historyGet (index : Byte)
  | cornerSet (corner : Byte) (dx dy : Half)
  | keystoneSet (mode : Byte) (v : Half)
  | mountSet (mode : Byte)
  | warpModeSet (mode : Byte)
  | geometryGet
  | warpResend
  | sensorGet
  | fanConfigSet (fan : Byte) (floor ceiling : CurveWire) (lightFF : Half)
  | fanGet
  | fanClear (fan : Byte)
  | quietSet (level priority : Byte)
  | thermalLimitSet (limits : LimitsWire)
  | thermalGet
  | lightDemandSet (demand : Half) (enable : Byte)
  | shutdownClear
  | compSet (enabled : Byte) (deadband : Half)
  | compGet
  | tableSet (table : Byte) (entries : List Half)
  | tableGet (table : Byte)
  | budgetSet (budget : Half)
  | settingsSave
  | settingsDefault
  /-- a KIND that names no request: answered UNKNOWN (R169 step 1) -/
  | unknown (kind : Byte)
  /-- a payload size the KIND does not allow: answered LENGTH (R169 step 2) -/
  | badLength (kind : Byte)
  /-- a TABLE_SET whose first byte names no table, before its length can be judged (R177) -/
  | noTable
  deriving DecidableEq, Repr, Inhabited

/-! ### The commands -/

/-- The rows of spec/opcode_table.json. -/
inductive Instr where
  | powerOnReset
  | pinReset
  | softReset
  | startUpHome
  | startUpRecall
  /-- bytes that arrive back to back on a port (R167) -/
  | frameReceived (port : Port) (bytes : List Byte)
  | frameGapTimeout (port : Port)
  | frameTransmitEnd (port : Port)
  | identGet (port : Port) (tag : Byte)
  | statusGet (port : Port) (tag : Byte)
  | alertMaskSet (port : Port) (tag : Byte) (mask : Byte)
  | alertClear (port : Port) (tag : Byte)
  | noticeMaskSet (port : Port) (tag : Byte) (mask : Byte)
  | reset (port : Port) (tag : Byte)
  | axisMove (port : Port) (tag : Byte) (axis : Byte) (target : Long) (speed : Byte)
  | axisJog (port : Port) (tag : Byte) (axis : Byte) (count : Long) (speed : Byte)
  | axisStop (port : Port) (tag : Byte) (axis : Byte)
  | axisHome (port : Port) (tag : Byte) (axis : Byte)
  | axisConfigSet (port : Port) (tag : Byte) (axis : Byte) (cfg : AxisConfigWire)
  | axisConfigGet (port : Port) (tag : Byte) (axis : Byte)
  | axisClear (port : Port) (tag : Byte) (axis : Byte)
  | brakeClear (port : Port) (tag : Byte)
  | calibrate (port : Port) (tag : Byte)
  | permitSet (port : Port) (tag : Byte) (map : Byte)
  | brakeSet (port : Port) (tag : Byte) (action : Byte)
  | presetStore (port : Port) (tag : Byte) (slot mask geometry : Byte) (label : List Byte)
  | presetRecall (port : Port) (tag : Byte) (slot : Byte)
  | presetGet (port : Port) (tag : Byte) (slot : Byte)
  | presetErase (port : Port) (tag : Byte) (slot : Byte)
  | historyBack (port : Port) (tag : Byte)
  | historyGet (port : Port) (tag : Byte) (index : Byte)
  | cornerSet (port : Port) (tag : Byte) (corner : Byte) (dx dy : Half)
  | keystoneSet (port : Port) (tag : Byte) (mode : Byte) (v : Half)
  | mountSet (port : Port) (tag : Byte) (mode : Byte)
  | warpModeSet (port : Port) (tag : Byte) (mode : Byte)
  | geometryGet (port : Port) (tag : Byte)
  | warpResend (port : Port) (tag : Byte)
  | sensorGet (port : Port) (tag : Byte)
  | fanConfigSet (port : Port) (tag : Byte) (fan : Byte) (floor ceiling : CurveWire) (lightFF : Half)
  | fanGet (port : Port) (tag : Byte)
  | fanClear (port : Port) (tag : Byte) (fan : Byte)
  | quietSet (port : Port) (tag : Byte) (level priority : Byte)
  | thermalLimitSet (port : Port) (tag : Byte) (limits : LimitsWire)
  | thermalGet (port : Port) (tag : Byte)
  | lightDemandSet (port : Port) (tag : Byte) (demand : Half) (enable : Byte)
  | shutdownClear (port : Port) (tag : Byte)
  | compSet (port : Port) (tag : Byte) (enabled : Byte) (deadband : Half)
  | compGet (port : Port) (tag : Byte)
  | tableSet (port : Port) (tag : Byte) (table : Byte) (entries : List Half)
  | tableGet (port : Port) (tag : Byte) (table : Byte)
  | budgetSet (port : Port) (tag : Byte) (budget : Half)
  | settingsSave (port : Port) (tag : Byte)
  | settingsDefault (port : Port) (tag : Byte)
  | presetWriteEnd
  | settingsWriteEnd
  | grantSpacingExpiry
  | queueTimeout (axis : Axis)
  | cruiseReached (axis : Axis)
  | decelPointReached (axis : Axis)
  | legAtRest (axis : Axis)
  | settleExpiry (axis : Axis)
  | loadIndicator (axis : Axis) (value : Byte)
  /-- `active`: the level of the axis's reference sensor after the edge (R16, R17) -/
  | homeSensorEdge (axis : Axis) (active : Bool)
  | homeSearchLimit (axis : Axis)
  | openLoadCheckExpiry (chan : Chan)
  /-- `current`: the sensed current in mA that ends the check (R29) -/
  | openLoadCheckPass (chan : Chan) (current : Nat)
  /-- `current`: the sensed current in mA (R30) -/
  | overcurrentDetected (chan : Chan) (current : Nat)
  /-- `current`: the sensed solenoid current in mA (R41) -/
  | brakeHitReached (current : Nat)
  /-- `peak`: the highest solenoid current seen since the grant; `current`: the present one, in mA (R41) -/
  | brakeDipSeen (peak current : Nat)
  | hitTimeExpiry
  | engageTimeExpiry
  | clampPendingExpiry
  | railLowBegin
  | railLowEnd
  | calibrationDueTimer
  | calibrationWindowOpen
  /-- `zeros`: the nine zero readings sampled in the window, in codes (R37) -/
  | calibrationWindowClose (zeros : PerChan Int)
  /-- `codes`: the ten conversions of the scan (R115) -/
  | scanEnd (codes : PerSensor Code12)
  | controlPeriod
  | tachPulse (fan : Fan)
  | spinupExpiry (fan : Fan)
  | warpAcknowledge
  | acknowledgeTimeout
  deriving DecidableEq, Repr, Inhabited

/-! ### Access to the per-item structures -/

/-- The value of one axis. -/
def PerAxis.get {α : Type} (t : PerAxis α) : Axis → α
  | .hsh => t.hsh
  | .vsh => t.vsh
  | .zom => t.zom
  | .foc => t.foc

/-- `t` with the value of one axis replaced. -/
def PerAxis.set {α : Type} (t : PerAxis α) (a : Axis) (x : α) : PerAxis α :=
  match a with
  | .hsh => { t with hsh := x }
  | .vsh => { t with vsh := x }
  | .zom => { t with zom := x }
  | .foc => { t with foc := x }

/-- The same value for each axis. -/
def PerAxis.all {α : Type} (x : α) : PerAxis α := ⟨x, x, x, x⟩

/-- The four values, HSH first. -/
def PerAxis.toList {α : Type} (t : PerAxis α) : List α := [t.hsh, t.vsh, t.zom, t.foc]

/-- The value of one fan. -/
def PerFan.get {α : Type} (t : PerFan α) : Fan → α
  | .fan0 => t.fan0
  | .fan1 => t.fan1
  | .fan2 => t.fan2

/-- `t` with the value of one fan replaced. -/
def PerFan.set {α : Type} (t : PerFan α) (f : Fan) (x : α) : PerFan α :=
  match f with
  | .fan0 => { t with fan0 := x }
  | .fan1 => { t with fan1 := x }
  | .fan2 => { t with fan2 := x }

/-- The three values, FAN0 first. -/
def PerFan.toList {α : Type} (t : PerFan α) : List α := [t.fan0, t.fan1, t.fan2]

/-- The value of one channel. -/
def PerChan.get {α : Type} (t : PerChan α) : Chan → α
  | .ch0 => t.ch0
  | .ch1 => t.ch1
  | .ch2 => t.ch2
  | .ch3 => t.ch3
  | .ch4 => t.ch4
  | .ch5 => t.ch5
  | .ch6 => t.ch6
  | .ch7 => t.ch7
  | .ch8 => t.ch8

/-- `t` with the value of one channel replaced. -/
def PerChan.set {α : Type} (t : PerChan α) (c : Chan) (x : α) : PerChan α :=
  match c with
  | .ch0 => { t with ch0 := x }
  | .ch1 => { t with ch1 := x }
  | .ch2 => { t with ch2 := x }
  | .ch3 => { t with ch3 := x }
  | .ch4 => { t with ch4 := x }
  | .ch5 => { t with ch5 := x }
  | .ch6 => { t with ch6 := x }
  | .ch7 => { t with ch7 := x }
  | .ch8 => { t with ch8 := x }

/-- The same value for each channel. -/
def PerChan.all {α : Type} (x : α) : PerChan α := ⟨x, x, x, x, x, x, x, x, x⟩

/-- The nine values, CH0 first. -/
def PerChan.toList {α : Type} (t : PerChan α) : List α :=
  [t.ch0, t.ch1, t.ch2, t.ch3, t.ch4, t.ch5, t.ch6, t.ch7, t.ch8]

/-- Each value of the nine channels replaced by its image. -/
def PerChan.map {α β : Type} (f : α → β) (t : PerChan α) : PerChan β :=
  ⟨f t.ch0, f t.ch1, f t.ch2, f t.ch3, f t.ch4, f t.ch5, f t.ch6, f t.ch7, f t.ch8⟩

/-- Two records combined channel by channel. -/
def PerChan.zipWith {α β γ : Type} (f : α → β → γ) (t : PerChan α) (u : PerChan β) : PerChan γ :=
  ⟨f t.ch0 u.ch0, f t.ch1 u.ch1, f t.ch2 u.ch2, f t.ch3 u.ch3, f t.ch4 u.ch4, f t.ch5 u.ch5,
   f t.ch6 u.ch6, f t.ch7 u.ch7, f t.ch8 u.ch8⟩

/-- Each value of the six sensors replaced by its image. -/
def PerThermo.map {α β : Type} (f : α → β) (t : PerThermo α) : PerThermo β :=
  ⟨f t.lsb, f t.img, f t.lns, f t.ain, f t.aex, f t.psu⟩

/-- Two records combined sensor by sensor. -/
def PerThermo.zipWith {α β γ : Type} (f : α → β → γ) (t : PerThermo α) (u : PerThermo β) : PerThermo γ :=
  ⟨f t.lsb u.lsb, f t.img u.img, f t.lns u.lns, f t.ain u.ain, f t.aex u.aex, f t.psu u.psu⟩

/-- The same value for each of the six sensors. -/
def PerThermo.all {α : Type} (x : α) : PerThermo α := ⟨x, x, x, x, x, x⟩

/-- The six values, LSB first. -/
def PerThermo.toList {α : Type} (t : PerThermo α) : List α := [t.lsb, t.img, t.lns, t.ain, t.aex, t.psu]

/-- The same value for each of the ten channels. -/
def PerSensor.all {α : Type} (x : α) : PerSensor α := ⟨PerThermo.all x, x, x, x, x⟩

/-- Each value of the ten channels replaced by its image. -/
def PerSensor.map {α β : Type} (f : α → β) (t : PerSensor α) : PerSensor β :=
  ⟨t.thermo.map f, f t.tlx, f t.tlz, f t.die, f t.rail⟩

/-- The ten values, A0 to A7, DIE, RAIL. -/
def PerSensor.toList {α : Type} (t : PerSensor α) : List α :=
  t.thermo.toList ++ [t.tlx, t.tlz, t.die, t.rail]

end Sys2Proof
end

