-- ==== Sys2Proof/Decode.lean ====
section
/-! DEFINITION. The decoder over the opcode table's bits. The part is a block: no row of spec/opcode_table.json gives
bits, so no word spells a command (log entry 36). The frames of the link are read by Sys2Proof/Machine/Parse.lean. -/

namespace Sys2Proof

/-- The command a word of the table's bits spells: none, since no row gives bits. -/
def decodeTableWord (_nbits _w : Nat) : Option Instr := none

end Sys2Proof
end

