-- ==== Sys2Proof/Config.lean ====
section
/-! DEFINITION. The free values: what the manual leaves open, as constants without a body, so that a theorem about
the model holds whatever the part does there. Each is named in the assumption log. -/

namespace Sys2Proof.Config

/-- The silicon revision number of IDENT_GET (R179). The manual does not state it. Log entry 17. -/
opaque siliconRevision : Byte

/-- The stored-image format version of IDENT_GET (R179). The manual does not state it. Log entry 17. -/
opaque imageVersion : Byte

/-- Whether a PRESET_STORE include-geometry byte other than 0 and 1 counts as set: R171 gives a flag's byte only as
1 or 0. Log entry 15. -/
opaque oddFlag : Byte → Bool

/-- Whether a PRESET_STORE axis mask that sets a bit above bit 3 is refused with RANGE, or its stray bits name no
axis: R67 states neither. Log entry 15. -/
opaque strayMaskRefused : Byte → Bool

/-- Whether a preset write over an image whose check failed writes the live settings (true) or the factory defaults
that the failed read loaded (false) beside the presets: R180 says only that it writes a whole image. Log entry 18. -/
opaque rewriteFromLive : Nat → Bool

/-- The light-source limit L that R150's 1000 − 4 × excess gives when it falls below 0, which a new WARN can make it do
(R154): L is 0..1000 and the manual states no value there. Log entry 33. -/
opaque limitUnderrun : Nat → Nat

/-- The focus base that R158's position less offset_now gives when that difference leaves the signed 32-bit range of the
field (R156): the manual states no value there. Log entry 64. -/
opaque baseBeyond : Int → Long

/-- The error item of COMP_GET, the target t less FOC's position (R164), where it leaves the signed 32-bit range: the manual
states no width and no value there. Log entry 71. -/
opaque errorBeyond : Int → Long

/-- The next draw of the orders and choices inside one event that the manual leaves open (R115, R123, R130, R146). Log
entry 8. -/
opaque nextDraw : Nat → Nat

end Sys2Proof.Config
end

