-- ==== Sys2Proof/Machine/Types.lean ====
section
/-! DEFINITION. The records of the thirteen blocks, field by field as the manual's tables give them. A field marked
"model" is the model's own working state: it carries what the manual's prose keeps without naming a field. -/

namespace Sys2Proof.Machine
open Sys2Proof

/-! ### Sets of values -/

/-- A direction of travel (R1, R12). -/
inductive Dir where
  | pos | neg
  deriving DecidableEq, Repr, Inhabited

/-- The speed classes (R1). -/
inductive Speed where
  | slow | normal | fast
  deriving DecidableEq, Repr, Inhabited

/-- The axis states (R2). -/
inductive AxisState where
  | parked | waitStart | homing | moving | settling | holding | faulted
  deriving DecidableEq, Repr, Inhabited

/-- Who asked for the move in progress (R1). -/
inductive Origin where
  | user | recalled | back | comp | home
  deriving DecidableEq, Repr, Inhabited

/-- The progress of the present leg (R1): ACCEL to TAKEUP in MOVING, SEARCH and RETURN in HOMING. -/
inductive Phase where
  | accel | cruise | decel | takeup | search | ret
  deriving DecidableEq, Repr, Inhabited

/-- The rest state a withdrawn start returns to (R1). -/
inductive Resume where
  | parked | holding | settling
  deriving DecidableEq, Repr, Inhabited

/-- The results of MOTION_DONE (R25). -/
inductive MoveResult where
  | done | stopped | stall | fault | thermal | noBudget | brakeFault | brakeEngaged | railLow | homeFail | superseded
  deriving DecidableEq, Repr, Inhabited

/-- Why an axis is FAULTED (R1). -/
inductive AxisCause where
  | stall | homeFail | overcurrent | openLoad | calib | driverHot | railLow
  deriving DecidableEq, Repr, Inhabited

/-- The idle policies (R3). -/
inductive IdlePolicy where
  | hold | park
  deriving DecidableEq, Repr, Inhabited

/-- What the present leg runs toward (model; R11, R12, R13, R17): its target, an overshoot point, the target again in
TAKEUP, the stop point before a reversal, the stop point of a decided end, the search edge, the rest point beyond the
edge, the reference position, the overshoot point of a home, the stop point of a failed home. -/
inductive Leg where
  | none | toTarget | overshoot | takeup | reversal | stop | search | overrun | homeReturn | homeOvershoot | homeFail
  deriving DecidableEq, Repr, Inhabited

/-- The part of the speed profile of the present leg (model; R11, R13). `slowing` is the deceleration to a lower
cruise speed of R13. -/
inductive Profile where
  | rest | accel | cruise | slowing | decel
  deriving DecidableEq, Repr, Inhabited

/-! ### AXC: the axis record (R1, R3) -/

/-- The settings of an axis (R3). -/
structure AxisSettings where
  travelMin : Int
  travelMax : Int
  refPos : Int
  run : Nat
  hold : Nat
  accel : Nat
  stall : Nat
  approach : Dir
  takeup : Int
  idle : IdlePolicy
  settle : Nat
  deriving DecidableEq, Repr, Inhabited

/-- The axis record (R1), with the model's own motion state. -/
structure AxisRec where
  state : AxisState
  referenced : Bool
  position : Int
  target : Int
  turnPoint : Int
  pendingTarget : Option Int
  origin : Origin
  speedClass : Speed
  phase : Phase
  lastDir : Dir
  resume : Resume
  endResult : Option MoveResult
  lowLoad : Nat
  faultCause : Option AxisCause
  settings : AxisSettings
  /-- model: a granted shift axis that waits in WAIT_START for the brake (R9) -/
  granted : Bool
  /-- model: the axis parks when it is at rest and the brake reports ENGAGED (R23) -/
  mustPark : Bool
  /-- model: the settle in progress belongs to a move (R10, R20) -/
  settleMove : Bool
  /-- model: the moment the settle time expires, in ms (R20) -/
  settleEnd : Nat
  /-- model: direction of the present leg (R13) -/
  dir : Dir
  /-- model: present speed in thousandths of a µstep per second (R11) -/
  speed : Nat
  /-- model: the part of a µstep already covered, in 1/2,000,000 µstep (R11) -/
  frac : Nat
  /-- model: the part of the speed profile (R11) -/
  profile : Profile
  /-- model: what the present leg runs toward -/
  leg : Leg
  deriving DecidableEq, Repr, Inhabited

/-! ### DRV: the channel records (R27, R33 to R35) -/

/-- The channel record (R27). `level` is absent while the channel is off. -/
structure Channel where
  level : Option Nat
  sensed : Nat
  overcurrent : Bool
  openLoad : Bool
  hitNotReached : Bool
  calib : Bool
  offset : Int
  /-- model: the moment the running open-load check expires, in ms (R29) -/
  check : Option Nat
  deriving DecidableEq, Repr, Inhabited

/-- The latches of a channel (R27). -/
inductive Latch where
  | overcurrent | openLoad | hitNotReached | calib
  deriving DecidableEq, Repr, Inhabited

/-- DRV: the nine channels, the two conditions and the calibration state (R27, R33, R34, R35). -/
structure Drv where
  chans : PerChan Channel
  driverHot : Bool
  railLow : Bool
  /-- the calibration window: absent while CLOSED, else the moment it closes, in ms -/
  window : Option Nat
  due : Bool
  /-- model: the end of the last run (or the reset), in ms, from which "time since last run" is counted -/
  lastRun : Nat
  calibrateDone : Bool
  requested : Bool
  deriving DecidableEq, Repr, Inhabited

/-! ### BRK: the brake record (R39) -/

/-- The brake states (R39). -/
inductive BrakeState where
  | engaged | releasing | released | engaging | faulted
  deriving DecidableEq, Repr, Inhabited

/-- Why the brake is FAULTED (R39). -/
inductive BrakeCause where
  | hitNotReached | noRelease | overcurrent | openLoad | calib
  deriving DecidableEq, Repr, Inhabited

/-- What to do when RELEASING or ENGAGING ends (R39). -/
inductive BrakeNext where
  | release | engage
  deriving DecidableEq, Repr, Inhabited

/-- The brake settings (R39). -/
structure BrakeSettings where
  hit : Nat
  hold : Nat
  hitTime : Nat
  engageTime : Nat
  deriving DecidableEq, Repr, Inhabited

/-- The brake record (R39). `timer` is absent while stopped, else the moment it expires, in ms. -/
structure Brk where
  state : BrakeState
  cause : Option BrakeCause
  releaseQueued : Bool
  next : Option BrakeNext
  timer : Option Nat
  hitReached : Bool
  dipSeen : Bool
  clampPending : Bool
  settings : BrakeSettings
  deriving DecidableEq, Repr, Inhabited

/-! ### RLM: the rail manager (R47, R50, R51, R56) -/

/-- The eight consumers of the actuator rail (R47). -/
inductive Consumer where
  | axis (a : Axis)
  | brake
  | fan (f : Fan)
  deriving DecidableEq, Repr, Inhabited

/-- The priority classes of start requests, first to last (R53). -/
inductive StartClass where
  | fan | brake | motor | comp
  deriving DecidableEq, Repr, Inhabited

/-- A start request (R51). Time in queue is counted from `since`, in ms. -/
structure StartReq where
  requester : Consumer
  cls : StartClass
  need : Nat
  partnerHold : Bool
  arrival : Nat
  since : Nat
  deriving DecidableEq, Repr, Inhabited

/-- The rail manager: the reservation table, the budget, the start queue and the grant history (R47, R49, R50, R51,
R56). -/
structure Rlm where
  axes : PerAxis Nat
  brake : Nat
  fans : PerFan Nat
  budget : Nat
  budgetRaised : Bool
  queue : List StartReq
  /-- model: the arrival number the next entry takes (R51) -/
  nextArrival : Nat
  /-- the times of the last four grants, newest first, in ms -/
  grants : List Nat
  deriving DecidableEq, Repr, Inhabited

/-! ### Geometry records (chapters 4 and 5) -/

/-- A panel point or an offset, in pixels. -/
structure Pt where
  x : Int
  y : Int
  deriving DecidableEq, Repr, Inhabited

/-- Four corners in the order top-left, top-right, bottom-right, bottom-left. -/
structure Quad where
  p0 : Pt
  p1 : Pt
  p2 : Pt
  p3 : Pt
  deriving DecidableEq, Repr, Inhabited

/-- The keystone modes (R83). -/
inductive KeyMode where
  | manual | auto
  deriving DecidableEq, Repr, Inhabited

/-- The mount modes (R83). -/
inductive MountMode where
  | auto | floor | ceiling
  deriving DecidableEq, Repr, Inhabited

/-- The warp modes (R83). -/
inductive WarpMode where
  | active | bypass
  deriving DecidableEq, Repr, Inhabited

/-- An orientation (R84, R124). -/
inductive Orientation where
  | floor | ceiling
  deriving DecidableEq, Repr, Inhabited

/-- A geometry record in chapter 4's sense: the corner offsets, the keystone mode and V. -/
structure Geom where
  corners : Quad
  mode : KeyMode
  v : Int
  deriving DecidableEq, Repr, Inhabited

/-- The live geometry record (R83). -/
structure LiveGeom where
  geom : Geom
  mount : MountMode
  warp : WarpMode
  deriving DecidableEq, Repr, Inhabited

/-- A warp input handed by GEO (R87). -/
structure WarpInput where
  quad : Quad
  permille : Nat
  bypass : Bool
  ceiling : Bool
  deriving DecidableEq, Repr, Inhabited

/-- GEO: the live record and its working state (R83, R84), with the tables of R96. -/
structure Geo where
  live : LiveGeom
  quad : Quad
  permille : Nat
  orientation : Orientation
  phiUsed : Int
  bandUsed : Nat
  refreshDue : Bool
  geomHold : Bool
  lastHanded : Option WarpInput
  geometryRestored : Bool
  tilt : List Int
  zoomFactor : List Int
  deriving DecidableEq, Repr, Inhabited

/-! ### LMM: lens memory (R65, R70, R78) -/

/-- A preset slot (R65). -/
structure Preset where
  valid : Bool
  label : List Byte
  pos : PerAxis (Option Int)
  focBase : Bool
  geom : Option Geom
  deriving DecidableEq, Repr, Inhabited

/-- What pushed a history snapshot (R78). -/
inductive SnapOrigin where
  | move
  | jog (a : Axis)
  | recalled
  | corner
  deriving DecidableEq, Repr, Inhabited

/-- A history snapshot (R78). -/
structure Snapshot where
  pos : PerAxis (Option Int)
  focBase : Bool
  geom : Geom
  origin : SnapOrigin
  deriving DecidableEq, Repr, Inhabited

/-- The kind of a recall (R70). -/
inductive RecallKind where
  | recalled | back
  deriving DecidableEq, Repr, Inhabited

/-- LMM: the preset table, the history stack (newest first), the recall record and the staged geometry
(R65, R70, R78). -/
structure Lmm where
  presets : List Preset
  history : List Snapshot
  discards : Nat
  active : Bool
  kind : RecallKind
  slot : Option Nat
  owed : PerAxis Bool
  staged : Option Geom
  deriving DecidableEq, Repr, Inhabited

/-! ### WRP: the warp engine (R99) -/

/-- One complete set of values for the scaler (6.1). -/
structure Warp where
  seq : Byte
  bypass : Bool
  ceiling : Bool
  permille : Nat
  quad : Quad
  a : Int
  b : Int
  c : Int
  d : Int
  e : Int
  f : Int
  g : Int
  h : Int
  deriving DecidableEq, Repr, Inhabited

/-- The warp link states (6.5). -/
inductive LinkState where
  | idle | posted | stalled
  deriving DecidableEq, Repr, Inhabited

/-- The warp engine's record (R99). `ackTimer` is absent while stopped, else the moment it expires, in ms. -/
structure Wrp where
  link : LinkState
  nextSeq : Byte
  last : Option Warp
  sent : Option Warp
  pending : Option Warp
  inEffect : Option Warp
  ackTimer : Option Nat
  overflow : Nat
  stray : Nat
  stall : Nat
  deriving DecidableEq, Repr, Inhabited

/-! ### SSC: the sensor scanner (R116, R120, R124) -/

/-- The judgment of a sample (R117). -/
inductive SensorFlag where
  | ok | short | opened
  deriving DecidableEq, Repr, Inhabited

/-- The channel record of the scanner (R116). -/
structure SensorRec where
  code : Nat
  flag : SensorFlag
  filled : Bool
  line : List Int
  smoothed : Option Int
  deriving DecidableEq, Repr, Inhabited

/-- What one channel publishes (R120). -/
structure Pub where
  flag : SensorFlag
  value : Option Int
  deriving DecidableEq, Repr, Inhabited

/-- One published set (R115, R120, R123). -/
structure PubSet where
  chans : PerSensor Pub
  pitch : Option Int
  deriving DecidableEq, Repr, Inhabited

/-- SSC: the channel records, the published set, the orientation record and the settings of R121 and R123. -/
structure Ssc where
  chans : PerSensor SensorRec
  published : Option PubSet
  scans : Nat
  detected : Orientation
  decided : Bool
  ceilHold : Nat
  floorHold : Nat
  /-- model: the run in progress at the last scan, if any (R124) -/
  run : Option Orientation
  /-- the effective orientation GEO published last (R123) -/
  effective : Orientation
  conversion : List Int
  tiltZero : Int
  /-- model: the end of the next scan, in ms (R115) -/
  nextScan : Nat
  deriving DecidableEq, Repr, Inhabited

/-! ### FAN: the fan records (R128) -/

/-- The fan states (R129). -/
inductive FanState where
  | stopped | spinup | running
  deriving DecidableEq, Repr, Inhabited

/-- One curve point (R131). -/
structure Point where
  t : Int
  d : Nat
  deriving DecidableEq, Repr, Inhabited

/-- A curve of five points (R131). -/
structure Curve where
  p1 : Point
  p2 : Point
  p3 : Point
  p4 : Point
  p5 : Point
  deriving DecidableEq, Repr, Inhabited

/-- The two curves of a fan (R133). -/
structure FanCurves where
  floor : Curve
  ceiling : Curve
  deriving DecidableEq, Repr, Inhabited

/-- The fan record (R128). `spinTimer` is absent while stopped, else the moment it expires, in ms. -/
structure FanRec where
  state : FanState
  demand : Nat
  cap : Option Nat
  cappedDuty : Nat
  applied : Nat
  capped : Bool
  railLimited : Bool
  spinTimer : Option Nat
  rpm : Nat
  lowCount : Nat
  fanFault : Bool
  requestQueued : Bool
  /-- model: tach pulses of the present control period (R138) -/
  pulses : Nat
  /-- model: the lowest applied duty in force in the present control period (R138) -/
  dutyMin : Nat
  /-- model: the fan has been RUNNING for the whole of the present control period so far (R138) -/
  wholePeriod : Bool
  /-- the expected speed of the last judged period, as reported (R141) -/
  expected : Nat
  deriving DecidableEq, Repr, Inhabited

/-- The thermal regimes, lowest first (chapter 9). -/
inductive Regime where
  | quiet | limited | override | emergency | shutdown
  deriving DecidableEq, Repr, Inhabited

/-- FAN: the three records, the curves and the gain of R140, and the period timer. -/
structure FanBlock where
  recs : PerFan FanRec
  curves : PerFan FanCurves
  lightFF : Nat
  /-- model: the next expiry of the control-period timer, in ms (R128) -/
  nextPeriod : Nat
  /-- the curve set, light demand and regime used at the last period (R141) -/
  usedCurves : Orientation
  usedLight : Nat
  usedRegime : Regime
  deriving DecidableEq, Repr, Inhabited

/-! ### THS: the thermal supervisor (R142, R143) -/

/-- The quiet levels (R134). -/
inductive QuietLevel where
  | cinema | standard | bright
  deriving DecidableEq, Repr, Inhabited

/-- The cap priorities (R134). -/
inductive CapPriority where
  | quietFirst | coolFirst
  deriving DecidableEq, Repr, Inhabited

/-- WARN, HIGH and CRIT of one sensor (R143). -/
structure Limit where
  warn : Int
  high : Int
  crit : Int
  deriving DecidableEq, Repr, Inhabited

/-- The used temperature of one sensor and its faulted mark (R143). -/
structure Used where
  temp : Int
  faulted : Bool
  deriving DecidableEq, Repr, Inhabited

/-- The supervisor's record (R142). `used` is absent before the first set after a power-on reset. -/
structure Ths where
  regime : Regime
  raw : Regime
  used : Option (PerThermo Used)
  critHold : PerThermo Nat
  /-- model: the sensor was at or above CRIT at the last scan in EMERGENCY (R147) -/
  critRun : PerThermo Bool
  emergencyHold : Nat
  /-- the shutdown cause: the sensors of CRIT_HOLD, and whether EMERGENCY_HOLD -/
  causeCrit : PerThermo Bool
  causeEmergency : Bool
  excess : Nat
  limit : Nat
  notified : Nat
  lightDemand : Nat
  lightEnable : Bool
  lsen : Bool
  /-- the three FAN_FAULT latches as last taken (R155) -/
  fanFaults : PerFan Bool
  limits : PerThermo Limit
  hyst : Int
  quiet : QuietLevel
  priority : CapPriority
  deriving DecidableEq, Repr, Inhabited

/-! ### FCP: the focus compensator (R156, R157) -/

/-- The compensator's record (R156) with the tables of R157. `lastStart` is a moment in ms. -/
structure Fcp where
  enabled : Bool
  deadband : Nat
  baseValid : Bool
  base : Long
  offsetKnown : Bool
  offsetNow : Int
  moveActive : Bool
  lastStart : Option Nat
  lastResult : Option MoveResult
  /-- the LNS value last used and the zoom band of that formation (R164) -/
  lnsUsed : Option Int
  comp : List Int
  zoom : List Int
  deriving DecidableEq, Repr, Inhabited

/-! ### STO: the stored image (R180, R181) -/

/-- The settings part of the stored image (R180). -/
structure Settings where
  axes : PerAxis AxisSettings
  brake : BrakeSettings
  budget : Nat
  conversion : List Int
  tiltZero : Int
  tilt : List Int
  zoomFactor : List Int
  focusComp : List Int
  focusZoom : List Int
  curves : PerFan FanCurves
  lightFF : Nat
  limits : PerThermo Limit
  hyst : Int
  quiet : QuietLevel
  priority : CapPriority
  compEnabled : Bool
  deadband : Nat
  deriving DecidableEq, Repr, Inhabited

/-- The access part of the stored image (R180). -/
structure Access where
  permit : Byte
  alertMask : Byte
  noticeMain : Byte
  noticeService : Byte
  deriving DecidableEq, Repr, Inhabited

/-- The settings, geometry, access and start-up parts, which SETTINGS_SAVE captures (R181). -/
structure SavedParts where
  settings : Settings
  geometry : LiveGeom
  access : Access
  powerOnSlot : Option Nat
  autoHome : Bool
  deriving DecidableEq, Repr, Inhabited

/-- The stored image: its parts, the preset part, and the CRC-16 that closes it (R180). -/
structure Image where
  parts : SavedParts
  presets : List Preset
  check : Half
  deriving DecidableEq, Repr, Inhabited

/-- A store write in progress, with the port that asked (R68, R181). -/
inductive Write where
  | preset (port : Port) (slot : Nat) (contents : Preset)
  | save (port : Port) (parts : SavedParts)
  deriving DecidableEq, Repr, Inhabited

/-- STO: the stored image, SETTINGS_DEFAULTED, the write in progress, and the live power-on preset slot and
AUTO_HOME as the last read gave them (R180). -/
structure Sto where
  image : Image
  defaulted : Bool
  write : Option Write
  powerOnSlot : Option Nat
  autoHome : Bool
  deriving DecidableEq, Repr, Inhabited

/-! ### LNK: the link controller (R165 to R175) -/

/-- The results of requests (R169). -/
inductive Result where
  | ok | accepted | busy | denied | state | fault | thermal | geometry | empty | unknown | length | range
  deriving DecidableEq, Repr, Inhabited

/-- The FLAGS byte of a reply (R166). -/
structure Flags where
  clamped : Bool
  masked : Bool
  staged : Bool
  coalesced : Bool
  deriving DecidableEq, Repr, Inhabited

/-- One value of a reply or notice payload with its width (R171). -/
inductive Datum where
  | u8 (n : Nat)
  | u16 (n : Nat)
  | u32 (n : Nat)
  | i16 (z : Int)
  | i32 (z : Int)
  deriving DecidableEq, Repr, Inhabited

/-- A reply before it is framed (R169). -/
structure Reply where
  kind : Byte
  tag : Byte
  result : Result
  flags : Flags
  data : List Datum
  deriving DecidableEq, Repr, Inhabited

/-- The reason a quad fails the acceptance test (R86). -/
inductive QuadReason where
  | convex | area | saturated
  deriving DecidableEq, Repr, Inhabited

/-- The causes a FAULT notice names (R31, R44, R117, R138). -/
inductive FaultNote where
  | channel (c : Chan) (l : Latch)
  | driverHot (began : Bool)
  | railLow (began : Bool)
  | noRelease
  | sensor (index : Nat) (flag : SensorFlag)
  | fan (f : Fan) (measured expected : Nat)
  deriving DecidableEq, Repr, Inhabited

/-- The kinds of reset (R179). -/
inductive ResetKind where
  | powerOn | pin | soft
  deriving DecidableEq, Repr, Inhabited

/-- The result of the power-on recall in READY (R184): no slot set, the refusal's result, or the RECALL_DONE result
(absent: OK). -/
inductive RecallOutcome where
  | none
  | refused (r : Result)
  | ended (r : Option MoveResult)
  deriving DecidableEq, Repr, Inhabited

/-- The eight notice kinds with their contents (R174). -/
inductive Notice where
  /-- R25 -/
  | motionDone (a : Axis) (origin : Origin) (result : MoveResult) (position : Int)
  /-- R82; `result` absent is OK -/
  | recallDone (kind : RecallKind) (slot : Option Nat) (result : Option MoveResult) (failing : Option Axis)
      (madeLive : Bool)
  /-- R145 -/
  | regime (old new raw : Regime) (used : PerThermo Used) (fanFaults : PerFan Bool)
  /-- R151 -/
  | lightLimit (limit : Nat) (regime : Regime) (priority : CapPriority) (excess : Nat)
  /-- R31, R44, R117, R138 -/
  | fault (note : FaultNote)
  /-- R112 -/
  | warp (seq : Byte) (bypass ceiling : Bool) (permille : Nat) (quad : Quad) (pendingSent : Bool)
  /-- R184 -/
  | ready (kind : ResetKind) (referenced : PerAxis Bool) (defaulted : Bool) (outcome : RecallOutcome)
  /-- R125 -/
  | orientation (detected : Orientation) (code : Int)
  deriving DecidableEq, Repr, Inhabited

/-- A frame on a transmitter (R170). -/
inductive OutFrame where
  | reply (r : Reply)
  | notice (n : Notice)
  deriving DecidableEq, Repr, Inhabited

/-- The receiver: HUNT, or in a frame with the bytes received so far after SYNC, LEN first (R165, R167). -/
inductive Receiver where
  | hunt
  | inFrame (bytes : List Byte)
  deriving DecidableEq, Repr, Inhabited

/-- The reason of the last discard (R165). -/
inductive Discard where
  | none | gap | check | length | overrun
  deriving DecidableEq, Repr, Inhabited

/-- The frame in a serving or waiting slot: its TAG and the request LNK reads in it (R168, R169). -/
structure Checked where
  tag : Byte
  req : Request
  deriving DecidableEq, Repr, Inhabited

/-- The serving slot's frame, with the reply that waits for reply ready, if it is built (R168). -/
structure Serving where
  frame : Checked
  held : Option Reply
  deriving DecidableEq, Repr, Inhabited

/-- The port record (R165), with the frame on the transmitter (R170). -/
structure PortRec where
  receiver : Receiver
  serving : Option Serving
  waiting : Option Checked
  replyReady : Option Reply
  transmitter : Option OutFrame
  queue : List Notice
  mask : Byte
  noticeLost : Bool
  badFrames : Nat
  overruns : Nat
  lastDiscard : Discard
  deriving DecidableEq, Repr, Inhabited

/-- A soft reset that RESET has arranged: the port, whether the last byte of RESET's reply has left it, and how many
frames leave it before that reply (model; R168, R170, R185, log entry 19). -/
structure Arranged where
  port : Port
  replyLeft : Bool
  ahead : Nat
  deriving DecidableEq, Repr, Inhabited

/-- LNK: the two port records and the shared items (R165, R175), the ALERT line, and the soft reset to come. -/
structure Lnk where
  main : PortRec
  service : PortRec
  permit : Byte
  alertMask : Byte
  linkLatch : Bool
  /-- the ALERT output is driven low (R175) -/
  alert : Bool
  arranged : Option Arranged
  deriving DecidableEq, Repr, Inhabited

/-! ### Start-up (R183 to R185) -/

/-- The progress of start-up's own motion (R184): the axes still to home and the home awaited; the recall to ask
for; the recall awaited; done. -/
inductive StartStage where
  | homing (toGo : List Axis) (awaiting : Option Axis)
  | askRecall
  | awaitRecall
  | done
  deriving DecidableEq, Repr, Inhabited

/-- The start-up record (R183, R184): the kind of the last reset, the progress of steps 7 to 9, and whether the
calibration window has closed since the reset (step 7). -/
structure StartUp where
  kind : ResetKind
  stage : StartStage
  windowClosed : Bool
  deriving DecidableEq, Repr, Inhabited

end Sys2Proof.Machine
end

