-- ==== Sys2Proof/Machine/Arith.lean ====
section
/-! DEFINITION. The arithmetic of the manual's Conventions (clamp, round, ceil, saturating counters), the byte order of
frames and the CRC-16 of R105 and R166. -/

namespace Sys2Proof.Machine
open Sys2Proof

/-- A value below `lo` is replaced by `lo`, one above `hi` by `hi` (Conventions, "clamped to"). -/
def clampInt (lo hi z : Int) : Int := if z < lo then lo else if hi < z then hi else z

/-- `clampInt` on unsigned values. -/
def clampNat (lo hi n : Nat) : Nat := if n < lo then lo else if hi < n then hi else n

/-- One more, stopping at `top` (Conventions, "saturating"). -/
def satSucc (top n : Nat) : Nat := if n < top then n + 1 else n

/-- The smallest integer not less than n / d. -/
def ceilDiv (n d : Nat) : Nat := (n + d - 1) / d

/-- n / d rounded half away from zero, for d other than 0 (Conventions, "round"). -/
def roundDiv (n d : Int) : Int :=
  let q : Int := ((2 * n.natAbs + d.natAbs) / (2 * d.natAbs) : Nat)
  if (n < 0) = (d < 0) then q else -q

/-- floor(n / d) for a positive d, as a natural number when it is one. -/
def floorNat (n d : Int) : Nat := (n / d).toNat

/-- Least and greatest value of a signed 32-bit number. -/
def int32Min : Int := -2147483648
/-- Least and greatest value of a signed 32-bit number. -/
def int32Max : Int := 2147483647

/-- A value clamped to the signed 32-bit range (R7, R12). -/
def clamp32 (z : Int) : Int := clampInt int32Min int32Max z

/-- floor of the square root, by bits: `k` bits remain to be decided, `r` is the root so far. -/
def isqrtFrom (n : Nat) : Nat → Nat → Nat
  | 0, r => r
  | k + 1, r =>
    let r' := r + 2 ^ k
    isqrtFrom n k (if r' * r' ≤ n then r' else r)

/-- floor of the square root of a number below 2^64. -/
def isqrt (n : Nat) : Nat := isqrtFrom n 32 0

/-- The entry of a table at an index; 0 past its end. -/
def tableAt (t : List Int) (i : Nat) : Int := t.getD i 0

/-- The sum of a list of integers. -/
def sumInt (l : List Int) : Int := l.foldl (· + ·) 0

/-- +1 for POS, -1 for NEG. -/
def Dir.sign : Dir → Int
  | .pos => 1
  | .neg => -1

/-- The other direction. -/
def Dir.flip : Dir → Dir
  | .pos => .neg
  | .neg => .pos

/-! ### Bytes -/

/-- The `k` bytes of a number, least significant first (Conventions, "Byte order"). -/
def leBytes : Nat → Nat → List Byte
  | 0, _ => []
  | k + 1, n => BitVec.ofNat 8 n :: leBytes k (n / 256)

/-- The number two bytes stand for, least significant first. -/
def half (lo hi : Byte) : Half := hi ++ lo

/-- The number four bytes stand for, least significant first. -/
def long (b0 b1 b2 b3 : Byte) : Long := (b3 ++ b2) ++ (b1 ++ b0)

/-- The bytes of one payload value (R171): unsigned, or two's complement. -/
def datumBytes : Datum → List Byte
  | .u8 n => leBytes 1 n
  | .u16 n => leBytes 2 n
  | .u32 n => leBytes 4 n
  | .i16 z => leBytes 2 (BitVec.ofInt 16 z).toNat
  | .i32 z => leBytes 4 (BitVec.ofInt 32 z).toNat

/-- One bit of the CRC-16 with polynomial 0x1021 (R105). -/
def crcShift (c : Half) : Half :=
  if c.msb then (c <<< (1 : Nat)) ^^^ 0x1021 else c <<< (1 : Nat)

/-- `k` bits of the CRC-16. -/
def crcShifts : Nat → Half → Half
  | 0, c => c
  | k + 1, c => crcShifts k (crcShift c)

/-- One byte taken into the CRC-16, most significant bit first (R105). -/
def crcByte (c : Half) (b : Byte) : Half :=
  crcShifts 8 (c ^^^ (b ++ (0 : Byte)))

/-- The CRC-16 of R105: initial value 0xFFFF, not inverted. -/
def crc16 (bytes : List Byte) : Half := bytes.foldl crcByte 0xFFFF

/-- The two bytes of a check, low byte first (R166). -/
def crcBytes (bytes : List Byte) : List Byte := leBytes 2 (crc16 bytes).toNat

end Sys2Proof.Machine
end

