-- ==== Sys2Proof/Machine/Operands.lean ====
section
/-! DEFINITION. The operand forms of the requests: how an enumeration, a mask bit and a signed value are read from a
payload field, and how each is carried in a reply or notice (R171). -/

namespace Sys2Proof.Machine
open Sys2Proof

/-! ### Enumerations, carried as the position of their value in the rule's list (R171) -/

/-- An axis number; none outside HSH..FOC. -/
def axisOf (b : Byte) : Option Axis :=
  match b.toNat with
  | 0 => some .hsh
  | 1 => some .vsh
  | 2 => some .zom
  | 3 => some .foc
  | _ => none

/-- The number of an axis. -/
def axisCode : Axis → Nat
  | .hsh => 0
  | .vsh => 1
  | .zom => 2
  | .foc => 3

/-- A speed class; none outside its set. -/
def speedOf (b : Byte) : Option Speed :=
  match b.toNat with
  | 0 => some .slow
  | 1 => some .normal
  | 2 => some .fast
  | _ => none

/-- An approach direction (R3): POS 0, NEG 1. -/
def dirOf (b : Byte) : Option Dir :=
  match b.toNat with
  | 0 => some .pos
  | 1 => some .neg
  | _ => none

/-- The code of a direction. -/
def dirCode : Dir → Nat
  | .pos => 0
  | .neg => 1

/-- An idle policy (R3): HOLD 0, PARK 1. -/
def idleOf (b : Byte) : Option IdlePolicy :=
  match b.toNat with
  | 0 => some .hold
  | 1 => some .park
  | _ => none

/-- The code of an idle policy. -/
def idleCode : IdlePolicy → Nat
  | .hold => 0
  | .park => 1

/-- The axes an AXIS_STOP names: one, or ALL by 0xFF (R15, R171). -/
def stopAxes (b : Byte) : Option (List Axis) :=
  if b = 0xFF then some [.hsh, .vsh, .zom, .foc] else (axisOf b).map fun a => [a]

/-- A keystone mode (R89): MANUAL 0, AUTO 1. -/
def keyModeOf (b : Byte) : Option KeyMode :=
  match b.toNat with
  | 0 => some .manual
  | 1 => some .auto
  | _ => none

/-- The code of a keystone mode. -/
def keyModeCode : KeyMode → Nat
  | .manual => 0
  | .auto => 1

/-- A mount mode (R90): AUTO 0, FLOOR 1, CEILING 2. -/
def mountOf (b : Byte) : Option MountMode :=
  match b.toNat with
  | 0 => some .auto
  | 1 => some .floor
  | 2 => some .ceiling
  | _ => none

/-- The code of a mount mode. -/
def mountCode : MountMode → Nat
  | .auto => 0
  | .floor => 1
  | .ceiling => 2

/-- A warp mode (R91): ACTIVE 0, BYPASS 1. -/
def warpModeOf (b : Byte) : Option WarpMode :=
  match b.toNat with
  | 0 => some .active
  | 1 => some .bypass
  | _ => none

/-- The code of a warp mode. -/
def warpModeCode : WarpMode → Nat
  | .active => 0
  | .bypass => 1

/-- The code of an orientation (R84, R124): FLOOR 0, CEILING 1. -/
def orientationCode : Orientation → Nat
  | .floor => 0
  | .ceiling => 1

/-- A fan (R140). -/
def fanOf (b : Byte) : Option Fan :=
  match b.toNat with
  | 0 => some .fan0
  | 1 => some .fan1
  | 2 => some .fan2
  | _ => none

/-- The number of a fan. -/
def fanCode : Fan → Nat
  | .fan0 => 0
  | .fan1 => 1
  | .fan2 => 2

/-- The fans a FAN_CLEAR names: one, or ALL, which R139 lists fourth (DEDUCED, log entry 21). -/
def clearFans (b : Byte) : Option (List Fan) :=
  if b = 3 then some [.fan0, .fan1, .fan2] else (fanOf b).map fun f => [f]

/-- A quiet level (R153). -/
def quietOf (b : Byte) : Option QuietLevel :=
  match b.toNat with
  | 0 => some .cinema
  | 1 => some .standard
  | 2 => some .bright
  | _ => none

/-- The code of a quiet level. -/
def quietCode : QuietLevel → Nat
  | .cinema => 0
  | .standard => 1
  | .bright => 2

/-- A cap priority (R153). -/
def priorityOf (b : Byte) : Option CapPriority :=
  match b.toNat with
  | 0 => some .quietFirst
  | 1 => some .coolFirst
  | _ => none

/-- The code of a cap priority. -/
def priorityCode : CapPriority → Nat
  | .quietFirst => 0
  | .coolFirst => 1

/-- What BRAKE_SET asks for (R46): engage 0, release 1. -/
def brakeActionOf (b : Byte) : Option BrakeNext :=
  match b.toNat with
  | 0 => some .engage
  | 1 => some .release
  | _ => none

/-- A flag field: 1 when set, 0 when clear; none otherwise (R171). -/
def flagOf (b : Byte) : Option Bool :=
  match b.toNat with
  | 0 => some false
  | 1 => some true
  | _ => none

/-- The code of a flag. -/
def flagCode (b : Bool) : Nat := if b then 1 else 0

/-- The code of a speed class. -/
def speedCode : Speed → Nat
  | .slow => 0
  | .normal => 1
  | .fast => 2

/-- The code of an axis state, in the order of R1. -/
def axisStateCode : AxisState → Nat
  | .parked => 0
  | .waitStart => 1
  | .homing => 2
  | .moving => 3
  | .settling => 4
  | .holding => 5
  | .faulted => 6

/-- The code of a move origin, in the order of R1. -/
def originCode : Origin → Nat
  | .user => 0
  | .recalled => 1
  | .back => 2
  | .comp => 3
  | .home => 4

/-- The code of a phase, in the order of R1. -/
def phaseCode : Phase → Nat
  | .accel => 0
  | .cruise => 1
  | .decel => 2
  | .takeup => 3
  | .search => 4
  | .ret => 5

/-- The code of a MOTION_DONE result, in the order of R25. -/
def moveResultCode : MoveResult → Nat
  | .done => 0
  | .stopped => 1
  | .stall => 2
  | .fault => 3
  | .thermal => 4
  | .noBudget => 5
  | .brakeFault => 6
  | .brakeEngaged => 7
  | .railLow => 8
  | .homeFail => 9
  | .superseded => 10

/-- The code of an axis fault cause, in the order of R1. -/
def axisCauseCode : AxisCause → Nat
  | .stall => 0
  | .homeFail => 1
  | .overcurrent => 2
  | .openLoad => 3
  | .calib => 4
  | .driverHot => 5
  | .railLow => 6

/-- The code of a brake state, in the order of R39. -/
def brakeStateCode : BrakeState → Nat
  | .engaged => 0
  | .releasing => 1
  | .released => 2
  | .engaging => 3
  | .faulted => 4

/-- The code of a brake fault cause, in the order of R39. -/
def brakeCauseCode : BrakeCause → Nat
  | .hitNotReached => 0
  | .noRelease => 1
  | .overcurrent => 2
  | .openLoad => 3
  | .calib => 4

/-- The code of a latch, in the order of R27. -/
def latchCode : Latch → Nat
  | .overcurrent => 0
  | .openLoad => 1
  | .hitNotReached => 2
  | .calib => 3

/-- The code of a consumer, in the order of R47. -/
def consumerCode : Consumer → Nat
  | .axis a => axisCode a
  | .brake => 4
  | .fan f => 5 + fanCode f

/-- The code of a start class, in the order of R51. -/
def classCode : StartClass → Nat
  | .fan => 0
  | .brake => 1
  | .motor => 2
  | .comp => 3

/-- The code of a recall kind (R70). -/
def recallKindCode : RecallKind → Nat
  | .recalled => 0
  | .back => 1

/-- The code of a snapshot origin, in the order of R78. -/
def snapOriginCode : SnapOrigin → Nat
  | .move => 0
  | .jog a => 1 + axisCode a
  | .recalled => 5
  | .corner => 6

/-- The code of a warp link state (6.5). -/
def linkStateCode : LinkState → Nat
  | .idle => 0
  | .posted => 1
  | .stalled => 2

/-- The code of a sensor fault flag (R116). -/
def sensorFlagCode : SensorFlag → Nat
  | .ok => 0
  | .short => 1
  | .opened => 2

/-- The code of a fan state (R128). -/
def fanStateCode : FanState → Nat
  | .stopped => 0
  | .spinup => 1
  | .running => 2

/-- The code of a regime, lowest first (R142). -/
def regimeCode : Regime → Nat
  | .quiet => 0
  | .limited => 1
  | .override => 2
  | .emergency => 3
  | .shutdown => 4

/-- The code of a quad failure (R86). -/
def quadReasonCode : QuadReason → Nat
  | .convex => 0
  | .area => 1
  | .saturated => 2

/-- The code of a result (R169). -/
def resultCode : Result → Nat
  | .ok => 0
  | .accepted => 1
  | .busy => 2
  | .denied => 3
  | .state => 4
  | .fault => 5
  | .thermal => 6
  | .geometry => 7
  | .empty => 8
  | .unknown => 9
  | .length => 10
  | .range => 11

/-- The code of a discard reason (R165). -/
def discardCode : Discard → Nat
  | .none => 0
  | .gap => 1
  | .check => 2
  | .length => 3
  | .overrun => 4

/-- The code of a reset kind (R179). -/
def resetKindCode : ResetKind → Nat
  | .powerOn => 0
  | .pin => 1
  | .soft => 2

/-! ### Absent values: a presence byte, then the value or zero bytes (R171) -/

/-- A one-byte value that may be absent. -/
def optU8 : Option Nat → List Datum
  | some n => [.u8 1, .u8 n]
  | none => [.u8 0, .u8 0]

/-- A two-byte unsigned value that may be absent. -/
def optU16 : Option Nat → List Datum
  | some n => [.u8 1, .u16 n]
  | none => [.u8 0, .u16 0]

/-- A two-byte signed value that may be absent. -/
def optI16 : Option Int → List Datum
  | some z => [.u8 1, .i16 z]
  | none => [.u8 0, .i16 0]

/-- A four-byte signed value that may be absent. -/
def optI32 : Option Int → List Datum
  | some z => [.u8 1, .i32 z]
  | none => [.u8 0, .i32 0]

/-- A flag. -/
def flagD (b : Bool) : Datum := .u8 (flagCode b)

/-! ### Masks -/

/-- Bit `i` of a mask byte (R171). -/
def maskBit (m : Byte) (i : Nat) : Bool := m.getLsbD i

/-- The mask byte whose bit at each position is the list's value at that position. -/
def maskOf : List Bool → Nat
  | [] => 0
  | b :: bs => flagCode b + 2 * maskOf bs

/-! ### Tables of R177 -/

/-- The seven tables of R177, in its order. -/
inductive TableId where
  | conversion | tiltZero | tilt | zoomFactor | focusComp | focusZoom | brake
  deriving DecidableEq, Repr, Inhabited

/-- The table a first payload byte names. -/
def tableOf (b : Byte) : Option TableId :=
  match b.toNat with
  | 0 => some .conversion
  | 1 => some .tiltZero
  | 2 => some .tilt
  | 3 => some .zoomFactor
  | 4 => some .focusComp
  | 5 => some .focusZoom
  | 6 => some .brake
  | _ => none

/-- The entry count of a table (R177). -/
def tableSize : TableId → Nat
  | .conversion => 17
  | .tiltZero => 1
  | .tilt => 33
  | .zoomFactor => 8
  | .focusComp => 9
  | .focusZoom => 8
  | .brake => 4

/-- The range of entry `i` of a table (R177). -/
def tableRange : TableId → Nat → Int × Int
  | .conversion, _ => (-400, 2000)
  | .tiltZero, _ => (-200, 200)
  | .tilt, _ => (-400, 400)
  | .zoomFactor, _ => (0, 8191)
  | .focusComp, _ => (-2000, 2000)
  | .focusZoom, _ => (0, 8191)
  | .brake, 0 => (400, 1200)
  | .brake, 1 => (100, 600)
  | .brake, _ => (10, 200)

/-- The KIND of a request (R171). -/
def kindOf : Request → Byte
  | .identGet => 0x01
  | .statusGet => 0x02
  | .alertMaskSet _ => 0x03
  | .alertClear => 0x04
  | .noticeMaskSet _ => 0x05
  | .reset => 0x06
  | .axisMove _ _ _ => 0x10
  | .axisJog _ _ _ => 0x11
  | .axisStop _ => 0x12
  | .axisHome _ => 0x13
  | .axisConfigSet _ _ => 0x14
  | .axisConfigGet _ => 0x15
  | .axisClear _ => 0x16
  | .brakeClear => 0x17
  | .calibrate => 0x18
  | .permitSet _ => 0x19
  | .brakeSet _ => 0x1A
  | .presetStore _ _ _ _ => 0x20
  | .presetRecall _ => 0x21
  | .presetGet _ => 0x22
  | .presetErase _ => 0x23
  | .historyBack => 0x24
  | .historyGet _ => 0x25
  | .cornerSet _ _ _ => 0x28
  | .keystoneSet _ _ => 0x29
  | .mountSet _ => 0x2A
  | .warpModeSet _ => 0x2B
  | .geometryGet => 0x2C
  | .warpResend => 0x2D
  | .sensorGet => 0x30
  | .fanConfigSet _ _ _ _ => 0x31
  | .fanGet => 0x32
  | .fanClear _ => 0x33
  | .quietSet _ _ => 0x34
  | .thermalLimitSet _ => 0x35
  | .thermalGet => 0x36
  | .lightDemandSet _ _ => 0x37
  | .shutdownClear => 0x38
  | .compSet _ _ => 0x39
  | .compGet => 0x3A
  | .tableSet _ _ => 0x3B
  | .tableGet _ => 0x3C
  | .budgetSet _ => 0x3D
  | .settingsSave => 0x3E
  | .settingsDefault => 0x3F
  | .unknown kind => kind
  | .badLength kind => kind
  | .noTable => 0x3B

end Sys2Proof.Machine
end

