-- ==== Sys2Proof/Machine/Image.lean ====
section
/-! DEFINITION. Settings, geometry and presets as payload values (R3, R69, R171), and the stored image as the bytes its
CRC-16 covers (R180). -/

namespace Sys2Proof.Machine
open Sys2Proof

/-! ### Groups shared by replies and the image -/

/-- No corner offset on any corner. -/
def noOffsets : Quad := ⟨⟨0, 0⟩, ⟨0, 0⟩, ⟨0, 0⟩, ⟨0, 0⟩⟩

/-- The bytes of a list of bytes, one datum each. -/
def rawD (l : List Byte) : List Datum := l.map fun b => .u8 b.toNat

/-- A geometry record: the four offsets, the keystone mode and V. -/
def geomD (g : Geom) : List Datum :=
  [.i16 g.corners.p0.x, .i16 g.corners.p0.y, .i16 g.corners.p1.x, .i16 g.corners.p1.y,
   .i16 g.corners.p2.x, .i16 g.corners.p2.y, .i16 g.corners.p3.x, .i16 g.corners.p3.y,
   .u8 (keyModeCode g.mode), .i16 g.v]

/-- A geometry record that may be absent: its bytes are 0 then (R171). -/
def optGeomD : Option Geom → List Datum
  | some g => .u8 1 :: geomD g
  | none => .u8 0 :: geomD ⟨noOffsets, .manual, 0⟩

/-- The live geometry record (R83). -/
def liveD (l : LiveGeom) : List Datum := geomD l.geom ++ [.u8 (mountCode l.mount), .u8 (warpModeCode l.warp)]

/-- The four positions of a preset or snapshot. -/
def positionsD (p : PerAxis (Option Int)) : List Datum := p.toList.flatMap optI32

/-- The settings record of R3, in the order of its table. -/
def axisSettingsD (st : AxisSettings) : List Datum :=
  [.i32 st.travelMin, .i32 st.travelMax, .i32 st.refPos, .u16 st.run, .u16 st.hold, .u32 st.accel, .u8 st.stall,
   .u8 (dirCode st.approach), .i16 st.takeup, .u8 (idleCode st.idle), .u16 st.settle]

/-- PRESET_GET's items (R69): an EMPTY slot carries its status alone. -/
def presetD (p : Preset) : List Datum :=
  if p.valid then
    [.u8 1, .u8 p.label.length] ++ rawD p.label ++ positionsD p.pos ++ [flagD p.focBase] ++ optGeomD p.geom
  else [.u8 0]

/-- A curve. -/
def curveD (c : Curve) : List Datum :=
  [.i16 c.p1.t, .u16 c.p1.d, .i16 c.p2.t, .u16 c.p2.d, .i16 c.p3.t, .u16 c.p3.d, .i16 c.p4.t, .u16 c.p4.d,
   .i16 c.p5.t, .u16 c.p5.d]

/-! ### The bytes of the stored image (R180)

The manual lists the parts of the image and gives its check, and leaves the layout of its bytes open. The model puts the
parts in the order of R180's table, each item with the width of R171 (DESIGN CHOICE, log entry 30). -/

/-- A table of R177: two bytes an entry. -/
def tableD (t : List Int) : List Datum := t.map fun z => .i16 z

/-- WARN, HIGH and CRIT of one sensor. -/
def limitD (l : Limit) : List Datum := [.i16 l.warn, .i16 l.high, .i16 l.crit]

/-- The settings part, in the order R180 names the settings. -/
def settingsD (x : Settings) : List Datum :=
  x.axes.toList.flatMap axisSettingsD ++
  [.u16 x.brake.hit, .u16 x.brake.hold, .u16 x.brake.hitTime, .u16 x.brake.engageTime, .u16 x.budget] ++
  tableD x.conversion ++ [.i16 x.tiltZero] ++ tableD x.tilt ++ tableD x.zoomFactor ++ tableD x.focusComp ++
  tableD x.focusZoom ++ x.curves.toList.flatMap (fun c => curveD c.floor ++ curveD c.ceiling) ++ [.u16 x.lightFF] ++
  x.limits.toList.flatMap limitD ++
  [.i16 x.hyst, .u8 (quietCode x.quiet), .u8 (priorityCode x.priority), flagD x.compEnabled, .u16 x.deadband]

/-- The parts of the image, with the presets last. -/
def imageD (x : SavedParts) (presets : List Preset) : List Datum :=
  settingsD x.settings ++ liveD x.geometry ++
  [.u8 x.access.permit.toNat, .u8 x.access.alertMask.toNat, .u8 x.access.noticeMain.toNat,
   .u8 x.access.noticeService.toNat] ++
  optU8 x.powerOnSlot ++ [flagD x.autoHome] ++ presets.flatMap presetD

/-- The CRC-16 over the whole image, with the polynomial and initial value of the link frame (R105, R165, R180). -/
def imageCheck (x : SavedParts) (presets : List Preset) : Half := crc16 ((imageD x presets).flatMap datumBytes)

/-- The check of an image passes (R180). -/
def Image.good (i : Image) : Bool := i.check = imageCheck i.parts i.presets

/-- A whole image written: its check is computed over all of it (R180). -/
def sealImage (x : SavedParts) (presets : List Preset) : Image := ⟨x, presets, imageCheck x presets⟩

/-- The image that a write cut short by loss of power leaves: its check fails (R180). No read uses its contents. -/
def spoilImage (i : Image) : Image := { i with check := ~~~ (imageCheck i.parts i.presets) }

end Sys2Proof.Machine
end

