-- ==== Sys2Proof/Machine/Defaults.lean ====
section
/-! DEFINITION. The fixed values of the manual (speeds, rated currents, caps, the pitch table), the factory defaults of
every setting, and each block's record after a reset. -/

namespace Sys2Proof.Machine
open Sys2Proof

/-! ### Fixed values -/

/-- Cruise speed of a speed class in µsteps/s (1.1). -/
def cruiseSpeed : Speed → Nat
  | .slow => 800
  | .normal => 3200
  | .fast => 6400

/-- Rated current of a fan in mA (R47). -/
def ratedCurrent : Fan → Nat
  | .fan0 => 650
  | .fan1 => 300
  | .fan2 => 350

/-- Rated speed of a fan in rpm (R47). -/
def ratedRpm : Fan → Nat
  | .fan0 => 4000
  | .fan1 => 2400
  | .fan2 => 2400

/-- Minimum running duty of a fan (chapter 8). -/
def minDuty : Fan → Nat
  | .fan0 => 200
  | .fan1 => 150
  | .fan2 => 150

/-- The caps of the quiet levels (R134). -/
def quietCap : QuietLevel → Fan → Nat
  | .cinema, .fan0 => 550
  | .cinema, .fan1 => 450
  | .cinema, .fan2 => 500
  | .standard, .fan0 => 750
  | .standard, .fan1 => 650
  | .standard, .fan2 => 700
  | .bright, _ => 1000

/-- The fixed pitch table (R122), in 1/16 degree. -/
def pitchTable : List Int := [0, 72, 144, 217, 291, 368, 447, 531, 619]

/-- The panel corners (R85 step 1). -/
def fullPanel : Quad := ⟨⟨0, 0⟩, ⟨3840, 0⟩, ⟨3840, 2160⟩, ⟨0, 2160⟩⟩

/-! ### Factory defaults of the settings -/

/-- The factory axis settings (R3). -/
def defaultAxis : Axis → AxisSettings
  | .hsh => ⟨-20000, 20000, 0, 400, 150, 12800, 40, .pos, 160, .park, 150⟩
  | .vsh => ⟨-48000, 48000, 0, 600, 250, 12800, 40, .pos, 240, .park, 150⟩
  | .zom => ⟨0, 36000, 0, 300, 100, 12800, 40, .pos, 120, .park, 100⟩
  | .foc => ⟨0, 28000, 0, 250, 80, 12800, 40, .neg, 96, .park, 100⟩

/-- The factory axis settings of all four axes. -/
def defaultAxes : PerAxis AxisSettings :=
  ⟨defaultAxis .hsh, defaultAxis .vsh, defaultAxis .zom, defaultAxis .foc⟩

/-- The factory brake settings (R39). -/
def defaultBrake : BrakeSettings := ⟨900, 300, 60, 40⟩

/-- The factory budget (R49). -/
def defaultBudget : Nat := 2400

/-- The factory conversion table (R118). -/
def defaultConversion : List Int :=
  [-300, -160, -60, 20, 90, 150, 205, 258, 310, 362, 416, 474, 540, 618, 720, 880, 1200]

/-- The factory tilt table, 24 × (i − 16) (R96). -/
def defaultTilt : List Int := (List.range 33).map fun i => 24 * ((i : Int) - 16)

/-- The factory zoom-factor table (R96). -/
def defaultZoomFactor : List Int := [4096, 3891, 3686, 3482, 3277, 3072, 2867, 2662]

/-- The factory compensation table (R157). -/
def defaultFocusComp : List Int := [180, 120, 60, 0, -60, -120, -180, -240, -300]

/-- The factory focus-zoom table (R157). -/
def defaultFocusZoom : List Int := [4096, 4096, 4096, 4096, 4096, 4096, 4096, 4096]

/-- The factory curves (R133). -/
def defaultCurves : PerFan FanCurves where
  fan0 := ⟨⟨⟨400, 300⟩, ⟨550, 450⟩, ⟨650, 650⟩, ⟨750, 850⟩, ⟨850, 1000⟩⟩,
           ⟨⟨400, 350⟩, ⟨550, 500⟩, ⟨650, 700⟩, ⟨750, 900⟩, ⟨850, 1000⟩⟩⟩
  fan1 := ⟨⟨⟨250, 250⟩, ⟨300, 350⟩, ⟨350, 500⟩, ⟨400, 750⟩, ⟨450, 1000⟩⟩,
           ⟨⟨250, 300⟩, ⟨300, 400⟩, ⟨350, 550⟩, ⟨400, 800⟩, ⟨450, 1000⟩⟩⟩
  fan2 := ⟨⟨⟨350, 250⟩, ⟨450, 400⟩, ⟨550, 600⟩, ⟨650, 800⟩, ⟨750, 1000⟩⟩,
           ⟨⟨350, 300⟩, ⟨450, 450⟩, ⟨550, 650⟩, ⟨650, 850⟩, ⟨750, 1000⟩⟩⟩

/-- The factory LIGHT_FF (R140). -/
def defaultLightFF : Nat := 200

/-- The factory limit table (R143). -/
def defaultLimits : PerThermo Limit where
  lsb := ⟨700, 800, 900⟩
  img := ⟨600, 680, 750⟩
  lns := ⟨550, 620, 700⟩
  ain := ⟨350, 400, 450⟩
  aex := ⟨550, 620, 700⟩
  psu := ⟨750, 850, 950⟩

/-- The factory hysteresis (R143). -/
def defaultHyst : Int := 30

/-- The factory settings (R180). -/
def defaultSettings : Settings where
  axes := defaultAxes
  brake := defaultBrake
  budget := defaultBudget
  conversion := defaultConversion
  tiltZero := 0
  tilt := defaultTilt
  zoomFactor := defaultZoomFactor
  focusComp := defaultFocusComp
  focusZoom := defaultFocusZoom
  curves := defaultCurves
  lightFF := defaultLightFF
  limits := defaultLimits
  hyst := defaultHyst
  quiet := .standard
  priority := .quietFirst
  compEnabled := true
  deadband := 8

/-- The factory live geometry record (R83). -/
def defaultLive : LiveGeom := ⟨⟨noOffsets, .auto, 0⟩, .auto, .active⟩

/-- The factory permission map: all six permissions open (R173). -/
def defaultPermit : Byte := 0x3F

/-- The factory ALERT mask: LINK alone masked, the class at position 5 (R175). -/
def defaultAlertMask : Byte := 0x20

/-- The factory notice mask: all eight kinds enabled (R165). -/
def defaultNoticeMask : Byte := 0xFF

/-- The factory access part (R165, R173, R175). -/
def defaultAccess : Access := ⟨defaultPermit, defaultAlertMask, defaultNoticeMask, defaultNoticeMask⟩

/-- The factory parts of the stored image (R180): no power-on preset slot, AUTO_HOME on. -/
def defaultParts : SavedParts := ⟨defaultSettings, defaultLive, defaultAccess, none, true⟩

/-- The EMPTY slot (R65). -/
def emptyPreset : Preset := ⟨false, [], PerAxis.all none, false, none⟩

/-- Twelve EMPTY slots (R65). -/
def emptyPresets : List Preset := List.replicate 12 emptyPreset

/-- The image of a part as built: factory parts and twelve EMPTY slots, with a good check. The manual says only that
the power-on preset slot and AUTO_HOME are written when the projector is built. Log entry 5. -/
def builtImage : Image := sealImage defaultParts emptyPresets

/-! ### The records after a reset -/

/-- The axis record after any reset (R1). The model's own motion state is at rest. -/
def axisAtReset (st : AxisSettings) : AxisRec where
  state := .parked
  referenced := false
  position := 0
  target := 0
  turnPoint := 0
  pendingTarget := none
  origin := .user
  speedClass := .slow
  phase := .accel
  lastDir := st.approach
  resume := .parked
  endResult := none
  lowLoad := 0
  faultCause := none
  settings := st
  granted := false
  mustPark := false
  settleMove := false
  settleEnd := 0
  dir := st.approach
  speed := 0
  frac := 0
  profile := .rest
  leg := .none

/-- The four axis records after any reset (R1). -/
def axesAtReset (st : PerAxis AxisSettings) : PerAxis AxisRec :=
  ⟨axisAtReset st.hsh, axisAtReset st.vsh, axisAtReset st.zom, axisAtReset st.foc⟩

/-- A channel record after a reset, with the offset it keeps or loses (R27). -/
def channelAtReset (offset : Int) : Channel := ⟨none, 0, false, false, false, false, offset, none⟩

/-- DRV after a reset at moment `now`, with the given offsets (R27, R35). -/
def drvAtReset (now : Nat) (offsets : PerChan Int) : Drv where
  chans := offsets.map channelAtReset
  driverHot := false
  railLow := false
  window := none
  due := true
  lastRun := now
  calibrateDone := false
  requested := false

/-- The brake record after any reset (R39). -/
def brkAtReset (st : BrakeSettings) : Brk := ⟨.engaged, none, false, none, none, false, false, false, st⟩

/-- The rail manager after power-on or pin reset, with its budget (R47, R50, R52, R56). -/
def rlmAtReset (budget : Nat) : Rlm :=
  ⟨PerAxis.all 0, 0, ⟨0, 0, 0⟩, budget, false, [], 0, []⟩

/-- LMM after any reset, with the preset table of the image (R65, R70, R78). -/
def lmmAtReset (presets : List Preset) : Lmm :=
  ⟨presets, [], 0, false, .recalled, none, PerAxis.all false, none⟩

/-- GEO after a reset, from the loaded record and the quad formed from it (R83, R84). -/
def geoAtReset (live : LiveGeom) (quad : Quad) (permille : Nat) (orientation : Orientation) (restored : Bool)
    (tilt zoomFactor : List Int) : Geo where
  live := live
  quad := quad
  permille := permille
  orientation := orientation
  phiUsed := 0
  bandUsed := 0
  refreshDue := true
  geomHold := false
  lastHanded := none
  geometryRestored := restored
  tilt := tilt
  zoomFactor := zoomFactor

/-- The warp engine after power-on or pin reset (R99). -/
def wrpAtReset : Wrp := ⟨.idle, 0, none, none, none, none, none, 0, 0, 0⟩

/-- A sensor channel record after power-on or pin reset (R116). -/
def sensorAtReset : SensorRec := ⟨0, .ok, false, [], none⟩

/-- The scanner after power-on or pin reset (R115, R116, R124). -/
def sscAtReset (conversion : List Int) (tiltZero : Int) (effective : Orientation) : Ssc where
  chans := PerSensor.all sensorAtReset
  published := none
  scans := 0
  detected := .floor
  decided := false
  ceilHold := 0
  floorHold := 0
  run := none
  effective := effective
  conversion := conversion
  tiltZero := tiltZero
  nextScan := 100

/-- A fan record after power-on or pin reset (R128): the start duty 300. -/
def fanAtReset : FanRec where
  state := .stopped
  demand := 0
  cap := none
  cappedDuty := 0
  applied := 300
  capped := false
  railLimited := false
  spinTimer := none
  rpm := 0
  lowCount := 0
  fanFault := false
  requestQueued := false
  pulses := 0
  dutyMin := 300
  wholePeriod := false
  expected := 0

/-- FAN after power-on or pin reset (R128). -/
def fanBlockAtReset (curves : PerFan FanCurves) (lightFF : Nat) (orientation : Orientation) : FanBlock where
  recs := ⟨fanAtReset, fanAtReset, fanAtReset⟩
  curves := curves
  lightFF := lightFF
  nextPeriod := 1000
  usedCurves := orientation
  usedLight := 0
  usedRegime := .quiet

/-- THS after power-on or pin reset (R142). -/
def thsAtReset (limits : PerThermo Limit) (hyst : Int) (quiet : QuietLevel) (priority : CapPriority) : Ths where
  regime := .quiet
  raw := .quiet
  used := none
  critHold := PerThermo.all 0
  critRun := PerThermo.all false
  emergencyHold := 0
  causeCrit := PerThermo.all false
  causeEmergency := false
  excess := 0
  limit := 1000
  notified := 1000
  lightDemand := 0
  lightEnable := false
  lsen := false
  fanFaults := ⟨false, false, false⟩
  limits := limits
  hyst := hyst
  quiet := quiet
  priority := priority

/-- FCP after power-on or pin reset (R156). -/
def fcpAtReset (enabled : Bool) (deadband : Nat) (comp zoom : List Int) : Fcp where
  enabled := enabled
  deadband := deadband
  baseValid := false
  base := 0
  offsetKnown := false
  offsetNow := 0
  moveActive := false
  lastStart := none
  lastResult := none
  lnsUsed := none
  comp := comp
  zoom := zoom

/-- A port record after power-on or pin reset (R165). -/
def portAtReset (mask : Byte) : PortRec :=
  ⟨.hunt, none, none, none, none, [], mask, false, 0, 0, .none⟩

/-- LNK after power-on or pin reset (R165). No class stands, so ALERT is released. -/
def lnkAtReset (acc : Access) : Lnk :=
  ⟨portAtReset acc.noticeMain, portAtReset acc.noticeService, acc.permit, acc.alertMask, false, false, none⟩

/-- The effective orientation a mount mode gives with a detected orientation (R84). -/
def orientationOf (mount : MountMode) (detected : Orientation) : Orientation :=
  match mount with
  | .auto => detected
  | .floor => .floor
  | .ceiling => .ceiling

/-- The homes start-up asks for, in order, when AUTO_HOME is on (R184). -/
def homeOrder (autoHome : Bool) : List Axis := if autoHome then [.zom, .foc, .hsh, .vsh] else []

end Sys2Proof.Machine
end

