-- ==== Sys2Proof/Machine/State.lean ====
section
/-! DEFINITION. The state of the part: one record per block (00_scope.md), the start-up record, the clock, the
reference-sensor pins and the queue of waiting commands; the state after power-on reset; faults and refusals. -/

namespace Sys2Proof.Machine
open Sys2Proof

/-- The whole state of the NCL-2204. -/
structure State where
  /-- model: time since the last power-on or pin reset, in ms; every timer, time in queue and uptime is counted on it
  (log entry 1) -/
  now : Nat
  /-- AXC: the four axis records (R1) -/
  axc : PerAxis AxisRec
  /-- DRV (R27, R33 to R35) -/
  drv : Drv
  /-- BRK (R39) -/
  brk : Brk
  /-- RLM (R47, R50, R51, R56) -/
  rlm : Rlm
  /-- LMM (R65, R70, R78) -/
  lmm : Lmm
  /-- GEO (R83, R84) -/
  geo : Geo
  /-- WRP (R99) -/
  wrp : Wrp
  /-- SSC (R116, R124) -/
  ssc : Ssc
  /-- FAN (R128) -/
  fan : FanBlock
  /-- THS (R142) -/
  ths : Ths
  /-- FCP (R156) -/
  fcp : Fcp
  /-- STO (R180) -/
  sto : Sto
  /-- LNK (R165, R175) -/
  lnk : Lnk
  /-- start-up (R183, R184) -/
  start : StartUp
  /-- the reference sensor inputs HREF, VREF, ZREF, FREF: active on the low-position side (R16) -/
  refActive : PerAxis Bool
  /-- model: the draw for the orders inside one event that the manual leaves open (R115, R123, R130, R146); any number
  is possible (log entry 8) -/
  draw : Nat
  /-- the commands that wait, first in, first out -/
  pending : List Instr
  deriving DecidableEq, Repr

/-- The part never stops with a fault: its rules give every command a next state. No constructor, so no step raises
one. -/
inductive Fault where
  deriving DecidableEq, Repr

/-- Why a command is refused. -/
inductive Refusal where
  /-- Raised by `exec`'s arm for a row that has no meaning yet. Safe: nothing can be proved of a state after it. No
  arm raises it now. -/
  | notModelled (mnemonic : String)
  deriving DecidableEq, Repr

/-- The records right after power-on reset, as the chapters' tables give them, with the stored image of a part as
built. Start-up's steps (R183) have not run: `powerOnReset` runs them. -/
def State.reset : State where
  now := 0
  axc := axesAtReset defaultAxes
  drv := drvAtReset 0 (PerChan.all 0)
  brk := brkAtReset defaultBrake
  rlm := rlmAtReset defaultBudget
  lmm := lmmAtReset emptyPresets
  geo := geoAtReset defaultLive fullPanel 1000 .floor false defaultTilt defaultZoomFactor
  wrp := wrpAtReset
  ssc := sscAtReset defaultConversion 0 .floor
  fan := fanBlockAtReset defaultCurves defaultLightFF .floor
  ths := thsAtReset defaultLimits defaultHyst .standard .quietFirst
  fcp := fcpAtReset true 8 defaultFocusComp defaultFocusZoom
  sto := ⟨builtImage, false, none, none, true⟩
  lnk := lnkAtReset defaultAccess
  start := ⟨.powerOn, .homing (homeOrder true) none, false⟩
  refActive := PerAxis.all false
  draw := 0
  pending := []

end Sys2Proof.Machine
end

