-- ==== Sys2Proof/Machine/Flags.lean ====
section
/-! DEFINITION. The flag computations: the FLAGS byte of a reply (R166), the ALERT classes and the ALERT line (R175),
and the notice kinds of a notice mask (R174). -/

namespace Sys2Proof.Machine
open Sys2Proof

/-- No flag set (R169). -/
def noFlags : Flags := ⟨false, false, false, false⟩

/-- CLAMPED as given. -/
def clampedFlag (b : Bool) : Flags := { noFlags with clamped := b }

/-- MASKED alone (R172). -/
def maskedFlag : Flags := { noFlags with masked := true }

/-- The FLAGS byte: bit 0 CLAMPED, bit 1 MASKED, bit 2 STAGED, bit 3 COALESCED (R166). -/
def flagsCode (f : Flags) : Nat := maskOf [f.clamped, f.masked, f.staged, f.coalesced]

/-- Only OK and ACCEPTED carry flags (R169). -/
def flagsFor (r : Result) (f : Flags) : Flags :=
  match r with
  | .ok => f
  | .accepted => f
  | _ => noFlags

/-! ### ALERT (R175) -/

/-- Whether a channel of the scanner is SHORT or OPEN (R117). -/
def sensorFaulted (r : SensorRec) : Bool := r.flag ≠ .ok

/-- The eight ALERT classes, in the order of R175's table. -/
inductive AlertClass where
  | axis | brake | fan | sensor | regime | link | rail | warp
  deriving DecidableEq, Repr, Inhabited

/-- Whether a class stands (R175). -/
def classStands (s : State) : AlertClass → Bool
  | .axis => s.axc.toList.any fun r => r.state = .faulted
  | .brake => s.brk.state = .faulted
  | .fan => s.fan.recs.toList.any fun r => r.fanFault
  | .sensor => s.ssc.chans.thermo.toList.any sensorFaulted || sensorFaulted s.ssc.chans.tlx || sensorFaulted s.ssc.chans.tlz
  | .regime =>
    match s.ths.regime with
    | .quiet => false
    | .limited => false
    | .override => true
    | .emergency => true
    | .shutdown => true
  | .link => s.lnk.linkLatch
  | .rail => s.drv.railLow
  | .warp => s.wrp.link = .stalled

/-- The eight classes, first to last. -/
def alertClasses : List AlertClass := [.axis, .brake, .fan, .sensor, .regime, .link, .rail, .warp]

/-- The classes standing, as a mask byte (R171, R176). -/
def standingMask (s : State) : Nat := maskOf (alertClasses.map (classStands s))

/-- The position of a class in the mask. -/
def classBit : AlertClass → Nat
  | .axis => 0
  | .brake => 1
  | .fan => 2
  | .sensor => 3
  | .regime => 4
  | .link => 5
  | .rail => 6
  | .warp => 7

/-- ALERT is driven low while a class stands that the ALERT mask does not mask (R175). -/
def alertDriven (s : State) : Bool :=
  alertClasses.any fun c => classStands s c && !maskBit s.lnk.alertMask (classBit c)

/-- The ALERT line formed again (R175). -/
def formAlert (s : State) : State := { s with lnk := { s.lnk with alert := alertDriven s } }

/-! ### Notice kinds (R174) -/

/-- The position of a notice's kind in a notice mask: kind code less 0xC1. -/
def noticeBit : Notice → Nat
  | .motionDone _ _ _ _ => 0
  | .recallDone _ _ _ _ _ => 1
  | .regime _ _ _ _ _ => 2
  | .lightLimit _ _ _ _ => 3
  | .fault _ => 4
  | .warp _ _ _ _ _ _ => 5
  | .ready _ _ _ _ => 6
  | .orientation _ _ => 7

/-- The KIND of a notice frame. -/
def noticeKind (n : Notice) : Byte := BitVec.ofNat 8 (0xC1 + noticeBit n)

end Sys2Proof.Machine
end

