-- ==== Sys2Proof/Machine/Motion.lean ====
section
/-! DEFINITION. How an axis record moves: legs, turn points, stopping distances and the trapezoidal profile (R11 to
R13, R17). Distances are µsteps, speeds thousandths of a µstep per second, times ms. -/

namespace Sys2Proof.Machine
open Sys2Proof

/-- The cruise speed of the present leg: SLOW in TAKEUP (R11), else that of the speed class. -/
def legCruise (r : AxisRec) : Nat :=
  1000 * cruiseSpeed (if r.phase = .takeup then .slow else r.speedClass)

/-- The stopping distance from a speed, ceil(v² / (2 × acceleration)) (R11). -/
def stopFrom (speed accel : Nat) : Nat := ceilDiv (speed * speed) (2 * accel * 1000000)

/-- The distance left to the turn point in the direction of the leg. -/
def remaining (r : AxisRec) : Nat := ((r.turnPoint - r.position) * r.dir.sign).toNat

/-- The stopping distance from the present speed. In DECEL it is the distance left to the turn point, which the axis
comes to rest on (R11). -/
def stopDistance (r : AxisRec) : Nat :=
  match r.profile with
  | .rest => 0
  | .decel => remaining r
  | _ => stopFrom r.speed r.settings.accel

/-- The counter moved to `p`; a step sets the last travel direction (R1). -/
def stepTo (r : AxisRec) (p : Int) : AxisRec :=
  { r with position := p, lastDir := if p = r.position then r.lastDir else r.dir, frac := 0 }

/-- A point clamped to the travel limits. -/
def clampTravel (st : AxisSettings) (p : Int) : Int := clampInt st.travelMin st.travelMax p

/-- A point clamped to the range the axis has: its travel limits when referenced, else signed 32 bits (R5). -/
def clampReach (r : AxisRec) (p : Int) : Int :=
  if r.referenced then clampTravel r.settings p else clamp32 p

/-- The turn point and the kind of the last leg but takeup for a travel direction `d` toward `t` (R12): `t` itself in
the approach direction or with no takeup length, else the overshoot point beyond `t`, clamped by `clamp`; a clamped
overshoot point equal to `t` makes no takeup. -/
def planLeg (st : AxisSettings) (clamp : Int → Int) (d : Dir) (t : Int) (direct far : Leg) : Int × Leg :=
  if d = st.approach ∨ st.takeup = 0 then (t, direct)
  else
    let o := clamp (t + d.sign * st.takeup)
    if o = t then (t, direct) else (o, far)

/-- The direction of a leg from rest toward `t` (R12). A leg of no length backs off against the approach direction, as R7
says of a move from PARKED or HOLDING whose backlash is not taken up; with the backlash taken up it has the approach
direction, its turn point is the target, and it makes no back-off and no takeup. R7 exempts from the back-off only a move
from PARKED or HOLDING, and R12 gives a leg of no length no direction; the model treats one begun at the grant of a start
from SETTLING, of a start whose target was replaced in WAIT_START, or in a home's return, in the same way (DESIGN CHOICE,
log entry 72). -/
def restDir (r : AxisRec) (t : Int) : Dir :=
  if r.position < t then .pos
  else if t < r.position then .neg
  else if r.lastDir = r.settings.approach then r.settings.approach
  else r.settings.approach.flip

/-- A leg begun from rest. -/
def beginLeg (r : AxisRec) (d : Dir) (turn : Int) (leg : Leg) (phase : Phase) : AxisRec :=
  { r with dir := d, turnPoint := turn, leg := leg, phase := phase, profile := .accel, speed := 0, frac := 0 }

/-- The first leg of a move from rest toward its target (R9, R11, R12). -/
def beginMove (r : AxisRec) (t : Int) : AxisRec :=
  let d := restDir r t
  let p := planLeg r.settings (clampReach r) d t .toTarget .overshoot
  { beginLeg r d p.1 p.2 .accel with state := .moving, target := t, pendingTarget := none, granted := false }

/-- The search of a home (R16): POS while the sensor is active, NEG while it is not. The turn point stands for the
end of the search distance of R17. A search has no travel limits, and the manual does not say what the signed 32-bit
counter of R1 does at its ends: the model lets the counter and the turn point pass them (DESIGN CHOICE, log
entry 49). -/
def beginSearch (r : AxisRec) (active : Bool) : AxisRec :=
  let d : Dir := if active then .pos else .neg
  let span := (r.settings.travelMax - r.settings.travelMin).toNat
  let reach : Int := (span + ceilDiv span 10 : Nat)
  { beginLeg r d (r.position + d.sign * reach) .search .search with
    state := .homing, target := r.settings.refPos, pendingTarget := none, granted := false }

/-- An axis that decelerates to rest on its stop point, without takeup (R12, R13, R15). -/
def decelTo (r : AxisRec) (leg : Leg) : AxisRec :=
  { r with
    turnPoint := clampReach r (r.position + r.dir.sign * (stopDistance r : Nat))
    leg := leg, profile := .decel, phase := if r.state = .moving then .decel else r.phase }

/-- A deceleration to a decided end (R15, R23, R24). It takes the place of an end decided before: R23 and R24 give
their result to every MOVING or HOMING axis, and R15 alone lets a decided end stand (`stopAxis`). -/
def decelToEnd (r : AxisRec) (res : MoveResult) : AxisRec := { decelTo r .stop with endResult := some res }

/-- The phase and profile part that follow from the present speed and the cruise speed of the class (R11, R13). While the
axis slows to a lower cruise speed its phase is DECEL, which R13 does not say (DESIGN CHOICE, log entry 58). -/
def rephase (r : AxisRec) : AxisRec :=
  let vc := 1000 * cruiseSpeed r.speedClass
  if r.speed < vc then { r with phase := .accel, profile := .accel }
  else if r.speed = vc then
    { r with phase := .cruise, profile := .cruise, lowLoad := if r.phase = .cruise then r.lowLoad else 0 }
  else { r with phase := .decel, profile := .slowing }

/-- A new target for a moving axis (R13): the leg goes on when the target lies ahead beyond the stopping distance,
else the axis comes to rest and reverses. -/
def retarget (r : AxisRec) (t : Int) (cls : Speed) : AxisRec :=
  let ahead : Int := (t - r.position) * r.dir.sign
  if (stopDistance r : Int) ≤ ahead then
    let p := planLeg r.settings (clampReach r) r.dir t .toTarget .overshoot
    rephase { r with target := t, speedClass := cls, endResult := none, turnPoint := p.1, leg := p.2 }
  else { decelTo r .reversal with target := t, speedClass := cls, endResult := none }

/-! ### The passing of time -/

/-- The distance covered in `dt` ms, in 1/2,000,000 µstep, and the speed at the end, from speed `v` with
acceleration `a` and cruise speed `vc` (R11). -/
def covered (prof : Profile) (v a vc dt : Nat) : Nat × Nat :=
  match prof with
  | .rest => (0, v)
  | .cruise => (2 * v * dt, v)
  | .accel =>
    if v + a * dt ≤ vc then (2 * v * dt + a * dt * dt, v + a * dt)
    else (2 * vc * dt - (vc - v) * (vc - v) / a, max v vc)
  | .slowing =>
    if vc + a * dt ≤ v then (2 * v * dt - a * dt * dt, v - a * dt)
    else (2 * vc * dt + (v - vc) * (v - vc) / a, min v vc)
  | .decel =>
    if a * dt ≤ v then (2 * v * dt - a * dt * dt, v - a * dt)
    else (v * v / a, 0)

/-- An axis record `dt` ms later. The counter never passes the turn point of its leg (log entry 3). -/
def moveBy (dt : Nat) (r : AxisRec) : AxisRec :=
  if r.profile = .rest then r
  else
    let c := covered r.profile r.speed r.settings.accel (legCruise r) dt
    let whole := r.frac + c.1
    let m := min (whole / 2000000) (remaining r)
    { stepTo r (r.position + r.dir.sign * (m : Nat)) with speed := c.2, frac := whole % 2000000 }

/-! ### The motion events -/

/-- CRUISE_REACHED (R11, R13, R18): the counter takes the steps the change of speed needs, and the leg cruises. On a leg
too short to reach cruise speed, where the part has no such event, the model acts as on any other: the counter stands on
the turn point at most, and the leg cruises (DESIGN CHOICE, log entry 66). -/
def reachCruise (r : AxisRec) : AxisRec :=
  let vc := legCruise r
  let gap := if r.speed ≤ vc then vc * vc - r.speed * r.speed else r.speed * r.speed - vc * vc
  let m := min (ceilDiv gap (2 * r.settings.accel * 1000000)) (remaining r)
  let r' := { stepTo r (r.position + r.dir.sign * (m : Nat)) with speed := vc, profile := .cruise }
  if r.state = .moving ∧ r.phase ≠ .takeup then { r' with phase := .cruise, lowLoad := 0 } else r'

/-- The distance from the turn point at which the present leg must begin to decelerate (R11): the stopping distance
in CRUISE; half of what is left, counted with the speed already gained, in a leg too short to cruise. -/
def decelDistance (r : AxisRec) : Nat :=
  match r.profile with
  | .accel => ceilDiv (remaining r + stopFrom r.speed r.settings.accel) 2
  | _ => stopFrom r.speed r.settings.accel

/-- DECEL_POINT_REACHED (R11): the counter stands at the stopping distance from the turn point. In ACCEL the model takes
every leg for one too short to cruise: on a leg long enough to cruise, where the part has no such event yet, the peak speed
lies above that of the class (DESIGN CHOICE, log entry 66). -/
def reachDecel (r : AxisRec) : AxisRec :=
  let s := min (decelDistance r) (remaining r)
  let v := if r.profile = .accel then isqrt (2 * r.settings.accel * s * 1000000) else r.speed
  { stepTo r (r.turnPoint - r.dir.sign * (s : Nat)) with
    speed := v, profile := .decel, phase := if r.state = .moving ∧ r.phase ≠ .takeup then .decel else r.phase }

/-- A leg come to rest on its turn point (R11). -/
def atRest (r : AxisRec) : AxisRec := { stepTo r r.turnPoint with speed := 0, profile := .rest }

/-- The TAKEUP leg back to the target (R12). -/
def beginTakeup (r : AxisRec) : AxisRec := beginLeg r r.settings.approach r.target .takeup .takeup

/-- The leg toward the target after a reversal (R13): its travel direction is the opposite of the one just ended. -/
def beginReversed (r : AxisRec) : AxisRec :=
  let d := r.dir.flip
  let p := planLeg r.settings (clampReach r) d r.target .toTarget .overshoot
  beginLeg r d p.1 p.2 .accel

/-- The RETURN leg of a home (R17), from the rest point beyond the edge to the reference position, its overshoot
point clamped to the travel limits. -/
def beginReturn (r : AxisRec) : AxisRec :=
  let t := r.settings.refPos
  let d := restDir r t
  let p := planLeg r.settings (clampTravel r.settings) d t .homeReturn .homeOvershoot
  beginLeg { r with target := t } d p.1 p.2 .ret

/-- The last part of a RETURN leg that overshot: back to the reference position in the approach direction (R12,
R17). -/
def beginReturnTakeup (r : AxisRec) : AxisRec := beginLeg r r.settings.approach r.target .homeReturn .ret

/-- The search edge (R17): the counter takes the reference position, and the axis decelerates to rest beyond it. With the
reference position within the stopping distance of an end of R1's signed 32-bit range, the point of rest lies outside that
range, and the manual does not say what the counter does there: the model leaves it unbounded (DESIGN CHOICE, log
entry 49). -/
def meetEdge (r : AxisRec) : AxisRec :=
  let s := stopFrom r.speed r.settings.accel
  { r with
    position := r.settings.refPos, frac := 0, lastDir := r.dir
    turnPoint := r.settings.refPos + r.dir.sign * (s : Nat), leg := .overrun, profile := .decel }

/-- The end of the search distance (R17): the axis decelerates toward a HOME_FAIL. -/
def missEdge (r : AxisRec) : AxisRec :=
  let r' := stepTo r r.turnPoint
  { decelTo r' .homeFail with endResult := some .homeFail }

end Sys2Proof.Machine
end

