-- ==== Sys2Proof/Machine/Ops.lean ====
section
/-! DEFINITION. The shared operations over the state: access to the axis, channel and port records, the clock, the
transmitters and the offering of notices (R170, R174). -/

namespace Sys2Proof.Machine
open Sys2Proof

/-! ### Records -/

/-- The record of an axis. -/
def State.axis (s : State) (a : Axis) : AxisRec := s.axc.get a

/-- The state with the record of an axis replaced. -/
def State.setAxis (s : State) (a : Axis) (r : AxisRec) : State := { s with axc := s.axc.set a r }

/-- The record of a channel. -/
def State.chan (s : State) (c : Chan) : Channel := s.drv.chans.get c

/-- The state with the record of a channel replaced. -/
def State.setChan (s : State) (c : Chan) (r : Channel) : State :=
  { s with drv := { s.drv with chans := s.drv.chans.set c r } }

/-- The record of a port. -/
def Lnk.port (l : Lnk) : Port → PortRec
  | .main => l.main
  | .service => l.service

/-- The link with the record of a port replaced. -/
def Lnk.setPort (l : Lnk) (p : Port) (r : PortRec) : Lnk :=
  match p with
  | .main => { l with main := r }
  | .service => { l with service := r }

/-- The record of a port. -/
def State.port (s : State) (p : Port) : PortRec := s.lnk.port p

/-- The state with the record of a port replaced. -/
def State.setPort (s : State) (p : Port) (r : PortRec) : State := { s with lnk := s.lnk.setPort p r }

/-- The record of a fan. -/
def State.fanRec (s : State) (f : Fan) : FanRec := s.fan.recs.get f

/-- The state with the record of a fan replaced. -/
def State.setFan (s : State) (f : Fan) (r : FanRec) : State :=
  { s with fan := { s.fan with recs := s.fan.recs.set f r } }

/-- The four axes in the order HSH, VSH, ZOM, FOC. -/
def allAxes : List Axis := [.hsh, .vsh, .zom, .foc]

/-- The nine channels. -/
def allChans : List Chan := [.ch0, .ch1, .ch2, .ch3, .ch4, .ch5, .ch6, .ch7, .ch8]

/-- The three fans. -/
def allFans : List Fan := [.fan0, .fan1, .fan2]

/-- The partner of a shift axis; ZOM and FOC have none (chapter 1). -/
def partnerOf : Axis → Option Axis
  | .hsh => some .vsh
  | .vsh => some .hsh
  | .zom => none
  | .foc => none

/-- A shift axis (chapter 1). -/
def isShift (a : Axis) : Bool := (partnerOf a).isSome

/-- EMERGENCY or SHUTDOWN: no motion is taken (R6, R24, R52). -/
def regimeClosed : Regime → Bool
  | .quiet => false
  | .limited => false
  | .override => false
  | .emergency => true
  | .shutdown => true

/-! ### The clock (log entries 1 and 2) -/

/-- The axes `dt` ms later. -/
def moveAxes (dt : Nat) (t : PerAxis AxisRec) : PerAxis AxisRec :=
  ⟨moveBy dt t.hsh, moveBy dt t.vsh, moveBy dt t.zom, moveBy dt t.foc⟩

/-- The state at moment `t`, with the axes moved on to it; unchanged when `t` is not ahead. -/
def advanceTo (t : Nat) (s : State) : State :=
  if t ≤ s.now then s else { s with now := t, axc := moveAxes (t - s.now) s.axc }

/-! ### Orders that the manual leaves open (log entry 8) -/

/-- The arrangement of a list that the number `k` picks; every arrangement of the list is that of some number. The
first argument is the list's length. -/
def permute {α : Type} : Nat → Nat → List α → List α
  | 0, _, _ => []
  | n + 1, k, l =>
    match l[k % (n + 1)]? with
    | some x => x :: permute n (k / (n + 1)) (l.eraseIdx (k % (n + 1)))
    | none => []

/-- The number of arrangements of `n` things. -/
def arrangements : Nat → Nat
  | 0 => 1
  | n + 1 => (n + 1) * arrangements n

/-- Actions taken one after the other, in the order that the draw picks. -/
def inSomeOrder (fs : List (State → State)) (s : State) : State :=
  (permute fs.length s.draw fs).foldl (fun t f => f t) { s with draw := s.draw / arrangements fs.length }

/-- A new draw, at the end of an event that used one. -/
def State.redraw (s : State) : State := { s with draw := Config.nextDraw s.draw }

/-! ### Transmitters and notices -/

/-- A request of the port is being handled: its reply is still to be built in this step. A store write keeps the
serving slot without keeping the transmitter (R168). -/
def handling (s : State) (p : Port) : Bool :=
  match (s.port p).serving, s.sto.write with
  | none, _ => false
  | some sv, none => sv.held.isNone
  | some sv, some (.preset q _ _) => sv.held.isNone && p ≠ q
  | some sv, some (.save q _) => sv.held.isNone && p ≠ q

/-- A free transmitter takes the reply in reply ready, else the oldest notice (R170). `hold`: a reply is being formed,
and the notices follow it. -/
def PortRec.sendNext (hold : Bool) (r : PortRec) : PortRec :=
  match r.transmitter, r.replyReady, r.queue with
  | some _, _, _ => r
  | none, some rep, _ => { r with transmitter := some (.reply rep), replyReady := none }
  | none, none, n :: rest => if hold then r else { r with transmitter := some (.notice n), queue := rest }
  | none, none, [] => r

/-- A notice offered to one port (R174): a port whose mask disables the kind does not take it; a full queue drops it
and sets NOTICE_LOST. -/
def PortRec.offer (hold : Bool) (n : Notice) (r : PortRec) : PortRec :=
  if maskBit r.mask (noticeBit n) then
    (if r.queue.length < 8 then { r with queue := r.queue ++ [n] } else { r with noticeLost := true }).sendNext hold
  else r

/-- A notice offered to both ports (R174). -/
def produce (n : Notice) (s : State) : State :=
  { s with lnk := { s.lnk with
      main := s.lnk.main.offer (handling s .main) n
      service := s.lnk.service.offer (handling s .service) n } }

end Sys2Proof.Machine
end

