-- ==== Sys2Proof/Machine/Warp.lean ====
section
/-! DEFINITION. The warp engine (chapter 6): the coefficient arithmetic, the warp frame and the warp link. -/

namespace Sys2Proof.Machine
open Sys2Proof

/-! ### The coefficient arithmetic (R100 to R103) -/

/-- The six differences and the determinant of a quad (R100). -/
structure WarpDiffs where
  dx1 : Int
  dx2 : Int
  dx3 : Int
  dy1 : Int
  dy2 : Int
  dy3 : Int
  deriving DecidableEq, Repr

/-- Stage 1 (R100). -/
def warpDiffs (q : Quad) : WarpDiffs where
  dx1 := q.p1.x - q.p2.x
  dx2 := q.p3.x - q.p2.x
  dx3 := q.p0.x - q.p1.x + q.p2.x - q.p3.x
  dy1 := q.p1.y - q.p2.y
  dy2 := q.p3.y - q.p2.y
  dy3 := q.p0.y - q.p1.y + q.p2.y - q.p3.y

/-- Stage 2: the determinant D (R100). -/
def warpDet (d : WarpDiffs) : Int := d.dx1 * d.dy2 - d.dx2 * d.dy1

/-- Stage 3 before saturation: gq and hq, both 0 in the affine case (R101). -/
def rawTerms (q : Quad) : Int × Int :=
  let d := warpDiffs q
  if d.dx3 = 0 ∧ d.dy3 = 0 then (0, 0)
  else
    (roundDiv ((d.dx3 * d.dy2 - d.dx2 * d.dy3) * 16777216) (warpDet d),
     roundDiv ((d.dx1 * d.dy3 - d.dx3 * d.dy1) * 16777216) (warpDet d))

/-- A projective term saturates when it leaves the signed 32-bit range (R101). -/
def saturates (z : Int) : Bool := z < int32Min || int32Max < z

/-- The number of terms of a quad that saturate (R101). -/
def saturatedTerms (q : Quad) : Nat := flagCode (saturates (rawTerms q).1) + flagCode (saturates (rawTerms q).2)

/-- A counter of R99 raised by `k`, saturating at 65,535. -/
def raiseCounter (k n : Nat) : Nat := if n + k ≤ 65535 then n + k else max n 65535

/-- Stage 4: one linear term, edge × 256 + round(term × coordinate / 65,536) (R102). -/
def linearTerm (edge term coord : Int) : Int := edge * 256 + roundDiv (term * coord) 65536

/-- The identity warp (R103). -/
def identityWarp (seq : Byte) (ceiling : Bool) : Warp :=
  ⟨seq, true, ceiling, 1000, fullPanel, 983040, 0, 0, 0, 552960, 0, 0, 0⟩

/-- The warp of a handed input (R104 step 1). -/
def computeWarp (seq : Byte) (i : WarpInput) : Warp :=
  if i.bypass then identityWarp seq i.ceiling
  else
    let q := i.quad
    let g := clamp32 (rawTerms q).1
    let h := clamp32 (rawTerms q).2
    { seq := seq, bypass := false, ceiling := i.ceiling, permille := i.permille, quad := q
      a := linearTerm (q.p1.x - q.p0.x) g q.p1.x
      b := linearTerm (q.p3.x - q.p0.x) h q.p3.x
      c := q.p0.x * 256
      d := linearTerm (q.p1.y - q.p0.y) g q.p1.y
      e := linearTerm (q.p3.y - q.p0.y) h q.p3.y
      f := q.p0.y * 256
      g := g
      h := h }

/-! ### The warp frame (R105) -/

/-- The corner coordinates in frame order. -/
def quadCoords (q : Quad) : List Int := [q.p0.x, q.p0.y, q.p1.x, q.p1.y, q.p2.x, q.p2.y, q.p3.x, q.p3.y]

/-- The eight coefficients in frame order. -/
def warpTerms (w : Warp) : List Int := [w.a, w.b, w.c, w.d, w.e, w.f, w.g, w.h]

/-- Offsets 0 to 51 of a warp frame. -/
def warpBody (w : Warp) : List Byte :=
  [w.seq, BitVec.ofNat 8 (maskOf [w.bypass, w.ceiling])] ++ datumBytes (.u16 w.permille) ++
  (quadCoords w.quad).flatMap (fun z => datumBytes (.i16 z)) ++
  (warpTerms w).flatMap (fun z => datumBytes (.i32 z))

/-- The 54 bytes of a warp frame. -/
def warpFrame (w : Warp) : List Byte := warpBody w ++ crcBytes (warpBody w)

/-! ### The warp link (R104, R106 to R111) -/

/-- The acknowledge time in ms (R99). -/
def ackTime : Nat := 120

/-- A warp sent (R106). -/
def sendWarp (now : Nat) (w : Warp) (r : Wrp) : Wrp :=
  { r with sent := some w, ackTimer := some (now + ackTime), link := .posted }

/-- A new warp taken by the link (R106, R107). -/
def postWarp (now : Nat) (w : Warp) (r : Wrp) : Wrp :=
  match r.link with
  | .idle => sendWarp now w r
  | .stalled => sendWarp now w r
  | .posted => { r with pending := some w }

/-- A warp input taken: computed, numbered, kept and posted (R104). -/
def takeInput (now : Nat) (i : WarpInput) (r : Wrp) : Wrp :=
  let w := computeWarp r.nextSeq i
  postWarp now w { r with nextSeq := r.nextSeq + 1, last := some w }

/-- The pending warp sent, if there is one (R108 step 4, R110 step 3). -/
def sendPending (now : Nat) (r : Wrp) : Wrp :=
  match r.pending with
  | some w => sendWarp now w { r with pending := none }
  | none => r

/-- The WARP notice of a warp in effect (R112). -/
def warpNotice (w : Warp) (pendingSent : Bool) : Notice :=
  .warp w.seq w.bypass w.ceiling w.permille w.quad pendingSent

/-- An acknowledge (R108, R109). -/
def acknowledge (s : State) : State :=
  match s.wrp.link, s.wrp.sent with
  | .posted, some w =>
    let r := { s.wrp with ackTimer := none, inEffect := some w, link := .idle }
    produce (warpNotice w r.pending.isSome) { s with wrp := sendPending s.now r }
  | .posted, none => { s with wrp := sendPending s.now { s.wrp with ackTimer := none, link := .idle } }
  | .idle, _ => { s with wrp := { s.wrp with stray := raiseCounter 1 s.wrp.stray } }
  | .stalled, _ => { s with wrp := { s.wrp with stray := raiseCounter 1 s.wrp.stray } }

/-- The expiry of the acknowledge timer (R110). -/
def ackExpired (s : State) : State :=
  let r := { s.wrp with stall := raiseCounter 1 s.wrp.stall, link := .stalled, ackTimer := none }
  { s with wrp := sendPending s.now r }

end Sys2Proof.Machine
end

