-- ==== Sys2Proof/Machine/Geometry.lean ====
section
/-! DEFINITION. The geometry unit (chapter 5): quads, the acceptance test, the zoom band, automatic keystone, the
handing of warp inputs, and the service of lens memory's records. -/

namespace Sys2Proof.Machine
open Sys2Proof

/-! ### Quads (R85, R86) -/

/-- One corner with its offset, clamped to the panel (R85 steps 3 and 4). -/
def placeCorner (x y : Int) (d : Pt) : Pt := ⟨clampInt 0 3840 (x + d.x), clampInt 0 2160 (y + d.y)⟩

/-- The quad of a geometry record (R85). -/
def quadOf (g : Geom) : Quad :=
  let top : Int := if 0 < g.v then g.v else 0
  let bottom : Int := if g.v < 0 then -g.v else 0
  ⟨placeCorner top 0 g.corners.p0, placeCorner (3840 - top) 0 g.corners.p1,
   placeCorner (3840 - bottom) 2160 g.corners.p2, placeCorner bottom 2160 g.corners.p3⟩

/-- The edge from one point to another. -/
def edge (p q : Pt) : Pt := ⟨q.x - p.x, q.y - p.y⟩

/-- The cross product (R86). -/
def cross (a b : Pt) : Int := a.x * b.y - a.y * b.x

/-- Condition 1 of the acceptance test (R86). -/
def convex (q : Quad) : Bool :=
  let e0 := edge q.p0 q.p1
  let e1 := edge q.p1 q.p2
  let e2 := edge q.p2 q.p3
  let e3 := edge q.p3 q.p0
  0 < cross e0 e1 && 0 < cross e1 e2 && 0 < cross e2 e3 && 0 < cross e3 e0

/-- Twice the area, S (R86). -/
def doubleArea (q : Quad) : Int := cross q.p0 q.p1 + cross q.p1 q.p2 + cross q.p2 q.p3 + cross q.p3 q.p0

/-- The area permille of a quad, floor(S × 500 / 8,294,400) (R86). -/
def permilleOf (q : Quad) : Int := Int.fdiv (doubleArea q * 500) 8294400

/-- The acceptance test: the first condition that fails (R86). -/
def judgeQuad (q : Quad) : Option QuadReason :=
  if !convex q then some .convex
  else if doubleArea q < 4147200 then some .area
  else if 0 < saturatedTerms q then some .saturated
  else none

/-- What a trial of the quad adds to the overflow counter (R86, R101). The trial is reached only by a quad that is
convex and large enough. -/
def trialOverflow (q : Quad) : Nat :=
  match judgeQuad q with
  | some .saturated => saturatedTerms q
  | _ => 0

/-- A trial that judges no request counts its saturated terms (R101). -/
def countTrial (q : Quad) (s : State) : State :=
  { s with wrp := { s.wrp with overflow := raiseCounter (trialOverflow q) s.wrp.overflow } }

/-! ### The warp input (R87) -/

/-- The warp input GEO would hand (R87). -/
def warpInput (g : Geo) : WarpInput :=
  match g.live.warp with
  | .active => ⟨g.quad, g.permille, false, g.orientation = .ceiling⟩
  | .bypass => ⟨fullPanel, 1000, true, g.orientation = .ceiling⟩

/-- The input handed when it differs from the one handed last (R87). -/
def handIfChanged (s : State) : State :=
  let i := warpInput s.geo
  if s.geo.lastHanded = some i then s
  else { s with geo := { s.geo with lastHanded := some i }, wrp := takeInput s.now i s.wrp }

/-- The effective quad and its permille formed again from the live record (R84, R85). -/
def formQuad (g : Geo) : Geo :=
  { g with quad := quadOf g.live.geom, permille := (permilleOf (quadOf g.live.geom)).toNat }

/-- GEO with a live geometry record replaced; mount and warp mode stay. -/
def setLiveGeom (x : Geom) (g : Geo) : Geo := formQuad { g with live := { g.live with geom := x } }

/-- The effective orientation formed again and published to the sensor scanner (R84, R90). -/
def formOrientation (s : State) : State :=
  let o := orientationOf s.geo.live.mount s.ssc.detected
  { s with geo := { s.geo with orientation := o }, ssc := { s.ssc with effective := o } }

/-! ### The keystone record (R84, R88) -/

/-- The record CORNER_SET, KEYSTONE_SET and the evaluation act on: the staged geometry when present, else the live
record. -/
def keystoneRecord (s : State) : Geom := s.lmm.staged.getD s.geo.live.geom

/-- The keystone record replaced (R77, R88). -/
def setKeystoneRecord (x : Geom) (s : State) : State :=
  if s.lmm.staged.isSome then { s with lmm := { s.lmm with staged := some x } }
  else { s with geo := setLiveGeom x s.geo }

/-! ### Automatic keystone (R92 to R95) -/

/-- The zoom band of a ZOM position (R92). -/
def zoomBandAt (st : AxisSettings) (p : Int) : Nat :=
  min 7 (floorNat ((p - st.travelMin) * 8) (st.travelMax - st.travelMin + 1))

/-- The present zoom band (R92). -/
def zoomBand (s : State) : Nat :=
  if s.axc.zom.referenced then zoomBandAt s.axc.zom.settings s.axc.zom.position else s.geo.bandUsed

/-- The pitch an evaluation may use: absent while the tilt X channel is faulted or no pitch is published (R93). -/
def usablePitch (s : State) : Option Int :=
  match s.ssc.published with
  | none => none
  | some p => if p.chans.tlx.flag = .ok then p.pitch.map (clampInt (-256) 256) else none

/-- Step 2 of R94: the tilt table at φ. -/
def tiltAt (tt : List Int) (phi : Int) : Int :=
  let q := (phi + 256).toNat
  let idx := if q / 16 = 32 then 31 else q / 16
  let frac : Int := if q / 16 = 32 then 16 else ((q % 16 : Nat) : Int)
  roundDiv (16 * tableAt tt idx + (tableAt tt (idx + 1) - tableAt tt idx) * frac) 16

/-- The candidate V of a pitch and a zoom band (R94). -/
def candidateV (g : Geo) (phi : Int) (band : Nat) : Int :=
  clampInt (-400) 400 (roundDiv (tiltAt g.tilt phi * tableAt g.zoomFactor band) 4096)

/-- An evaluation of the keystone record at φ and a zoom band (R95). The input is handed by the event's end. -/
def evaluate (phi : Int) (band : Nat) (s : State) : State :=
  let g := keystoneRecord s
  let v := candidateV s.geo phi band
  let g' := { g with v := v }
  let settled := fun (t : State) =>
    { t with geo := { t.geo with phiUsed := phi, bandUsed := band, refreshDue := false, geomHold := false } }
  if v = g.v then settled s
  else
    let s' := countTrial (quadOf g') s
    match judgeQuad (quadOf g') with
    | none => settled (setKeystoneRecord g' s')
    | some _ => { s' with geo := { s'.geo with geomHold := true } }

/-- Whether a scan calls for an evaluation (R93). -/
def evaluationDue (s : State) (phi : Int) : Bool :=
  s.geo.refreshDue || 8 ≤ (phi - s.geo.phiUsed).natAbs || zoomBand s ≠ s.geo.bandUsed

/-- The auto-keystone evaluation at the end of a scan (R93). -/
def autoKeystone (s : State) : State :=
  match (keystoneRecord s).mode, usablePitch s with
  | .auto, some phi => if evaluationDue s phi then evaluate phi (zoomBand s) s else s
  | .auto, none => s
  | .manual, _ => s

/-! ### Lens memory's records (R97) -/

/-- A recalled record as GEO judges it: the record with the V it is judged with, and the φ and band of its candidate
when one was used. -/
structure Judged where
  geom : Geom
  used : Option (Int × Nat)
  deriving DecidableEq, Repr

/-- A recalled record judged (R97). -/
def judgeRecord (s : State) (g : Geom) : Judged :=
  match g.mode, usablePitch s with
  | .auto, some phi => ⟨{ g with v := candidateV s.geo phi (zoomBand s) }, some (phi, zoomBand s)⟩
  | .auto, none => ⟨g, none⟩
  | .manual, _ => ⟨g, none⟩

/-- A judged record made staged geometry (R97). -/
def stageGeometry (j : Judged) (s : State) : State :=
  let geo :=
    match j.used with
    | some (phi, band) => { s.geo with phiUsed := phi, bandUsed := band, refreshDue := false, geomHold := false }
    | none => { s.geo with refreshDue := true, geomHold := false }
  { s with geo := geo, lmm := { s.lmm with staged := some j.geom } }

/-- Staged geometry handed over to the live record, with its evaluation at once in keystone mode AUTO (R73, R97). Where that
evaluation fails it holds by R95, and refresh due stays as it stood, so that the next scan tries it again only if R93's
deadband or band calls for it. R73 counts the mode as having just become AUTO, which at a KEYSTONE_SET makes refresh due
true (R84, R89), and R97 names that for the absent pitch alone (DESIGN CHOICE, log entry 70). -/
def handOver (g : Geom) (s : State) : State :=
  let s' := { s with lmm := { s.lmm with staged := none }, geo := setLiveGeom g s.geo }
  let s'' :=
    match g.mode, usablePitch s' with
    | .auto, some phi => evaluate phi (zoomBand s') s'
    | .auto, none => { s' with geo := { s'.geo with refreshDue := true } }
    | .manual, _ => s'
  handIfChanged s''

/-- Staged geometry discarded (R74, R97). -/
def discardStaged (s : State) : State :=
  if s.lmm.staged.isSome then
    { s with lmm := { s.lmm with staged := none }, geo := { s.geo with refreshDue := true, geomHold := false } }
  else s

end Sys2Proof.Machine
end

