-- ==== Sys2Proof/Machine/Focus.lean ====
section
/-! DEFINITION. The focus compensator's offset and base (R157, R158) and the conditions of a compensation move
(R159). -/

namespace Sys2Proof.Machine
open Sys2Proof

/-- The LNS value when its flag is OK and a value is published (R157). -/
def lnsGood (s : State) : Option Int :=
  match s.ssc.published with
  | none => none
  | some p => if p.chans.thermo.lns.flag = .ok then p.chans.thermo.lns.value else none

/-- 50 × the table value I, exact (R157 step 1). -/
def compTable50 (fc : List Int) (t : Int) : Int :=
  if t ≤ 100 then 50 * tableAt fc 0
  else if 500 ≤ t then 50 * tableAt fc 8
  else
    let i := floorNat (t - 100) 50
    50 * tableAt fc i + (tableAt fc (i + 1) - tableAt fc i) * (t - (100 + 50 * (i : Int)))

/-- The offset of an LNS temperature and a zoom band (R157). -/
def offsetOf (fc fz : List Int) (t : Int) (band : Nat) : Int :=
  roundDiv (compTable50 fc t * tableAt fz band) (50 * 4096)

/-- offset_now formed from the published LNS value, when it is good (R157). -/
def formOffset (s : State) : State :=
  match lnsGood s with
  | none => s
  | some t =>
    { s with fcp := { s.fcp with
        offsetNow := offsetOf s.fcp.comp s.fcp.zoom t (zoomBand s), offsetKnown := true, lnsUsed := some t } }

/-- FOC's referenced flag became false: the base is invalid (R158). -/
def invalidateBase (s : State) : State := { s with fcp := { s.fcp with baseValid := false } }

/-- The base of a position less offset_now (R158), a signed 32-bit value (R156); beyond that range it is a free value
(DESIGN CHOICE, log entry 64). -/
def baseOf (d : Int) : Long := if int32Min ≤ d ∧ d ≤ int32Max then BitVec.ofInt 32 d else Config.baseBeyond d

/-- AXC's report of the end of a FOC move (R158). -/
def focusReport (o : Origin) (res : MoveResult) (s : State) : State :=
  let user :=
    if res ≠ .done then s
    else if !s.fcp.offsetKnown then invalidateBase s
    else if s.axc.foc.referenced then
      { s with fcp := { s.fcp with base := baseOf (s.axc.foc.position - s.fcp.offsetNow), baseValid := true } }
    else s
  match o with
  | .user => user
  | .recalled => user
  | .back => user
  | .comp => { s with fcp := { s.fcp with moveActive := false, lastResult := some res } }
  | .home => s

/-- The target of a compensation move, clamped to FOC's travel limits (R159 condition 7). -/
def compTarget (s : State) : Int := clampTravel s.axc.foc.settings (s.fcp.base.toInt + s.fcp.offsetNow)

/-- The error of COMP_GET, the target less FOC's position (R164), as the four bytes that log entry 22 gives it. R164 states
no width for it and no result where it leaves the signed 32-bit range: a free value there (DESIGN CHOICE, log entry 71). -/
def compError (s : State) : Long :=
  let d := compTarget s - s.axc.foc.position
  if int32Min ≤ d ∧ d ≤ int32Max then BitVec.ofInt 32 d else Config.errorBeyond d

/-- The holds of R159. -/
inductive Hold where
  | none | disabled | noBase | axis | recalled | regime | sensor | deadband | rate
  deriving DecidableEq, Repr

/-- The first condition of R159 that fails, and NONE when all eight hold. R164 gives NONE "when a move would start", and AXC
may refuse the move of R160 with the eight conditions holding (DRIVER_HOT or RAIL_LOW over a PARKED FOC): R159 has no hold
for that, and the model reports NONE (DESIGN CHOICE, log entry 73). -/
def compHold (s : State) : Hold :=
  if !s.fcp.enabled then .disabled
  else if !s.fcp.baseValid then .noBase
  else if !(s.axc.foc.referenced && (s.axc.foc.state = .parked || s.axc.foc.state = .holding)) then .axis
  else if s.lmm.active then .recalled
  else if regimeClosed s.ths.regime then .regime
  else if (lnsGood s).isNone then .sensor
  else if (compTarget s - s.axc.foc.position).natAbs < s.fcp.deadband then .deadband
  else
    match s.fcp.lastStart with
    | some t => if s.now < t + 30000 then .rate else .none
    | none => .none

/-- The code of a hold: the place in R159's table, and NONE, which R164 names beside them, after the last (DEDUCED, log
entry 21). -/
def holdCode : Hold → Nat
  | .disabled => 0
  | .noBase => 1
  | .axis => 2
  | .recalled => 3
  | .regime => 4
  | .sensor => 5
  | .deadband => 6
  | .rate => 7
  | .none => 8

end Sys2Proof.Machine
end

