-- ==== Sys2Proof/Machine/Memory.lean ====
section
/-! DEFINITION. Lens memory's records: resting positions, snapshots, the history push, and the ends of a recall
(R66, R73, R74, R78, R79, R82), with start-up's READY (R184). -/

namespace Sys2Proof.Machine
open Sys2Proof

/-! ### READY (R184) -/

/-- The referenced flags of the four axes. -/
def referencedFlags (s : State) : PerAxis Bool :=
  ⟨s.axc.hsh.referenced, s.axc.vsh.referenced, s.axc.zom.referenced, s.axc.foc.referenced⟩

/-- READY produced, and start-up done (R184). -/
def produceReady (out : RecallOutcome) (s : State) : State :=
  produce (.ready s.start.kind (referencedFlags s) s.sto.defaulted out) { s with start := { s.start with stage := .done } }

/-- READY produced when the power-on recall it waits for has ended (R184). -/
def readyAfterRecall (res : Option MoveResult) (s : State) : State :=
  match s.start.stage with
  | .awaitRecall => produceReady (.ended res) s
  | .homing _ _ => s
  | .askRecall => s
  | .done => s

/-- The homes are over (R184): start-up asks for the recall of the power-on preset slot next, or is done. -/
def afterHomes (s : State) : State :=
  match s.sto.powerOnSlot with
  | none => produceReady .none s
  | some _ => { s with start := { s.start with stage := .askRecall } }

/-- The next home, or the end of the homes (R184). -/
def nextHome (toGo : List Axis) (s : State) : State :=
  match toGo with
  | [] => afterHomes s
  | _ :: _ => { s with start := { s.start with stage := .homing toGo none } }

/-- The home start-up waits for has ended (R184). -/
def homeEnded (a : Axis) (s : State) : State :=
  match s.start.stage with
  | .homing toGo (some b) => if a = b then nextHome toGo s else s
  | .homing _ none => s
  | .askRecall => s
  | .awaitRecall => s
  | .done => s

/-! ### Snapshots (R66, R78, R79) -/

/-- The resting position of an axis; an unreferenced axis has none (R66). -/
def restingPosition (r : AxisRec) : Option Int :=
  if r.referenced then
    some (match r.state with
      | .waitStart => r.pendingTarget.getD r.position
      | .moving => r.target
      | .homing => r.position
      | .parked => r.position
      | .holding => r.position
      | .settling => r.position
      | .faulted => r.position)
  else none

/-- Whether FOC is recorded as the focus base (R66). -/
def recordsBase (s : State) : Bool := s.axc.foc.referenced && s.fcp.enabled && s.fcp.baseValid

/-- The FOC entry of a preset or snapshot (R66). -/
def focEntry (s : State) : Option Int := if recordsBase s then some s.fcp.base.toInt else restingPosition s.axc.foc

/-- A snapshot of the lens and geometry (R78). -/
def snapshot (s : State) (o : SnapOrigin) : Snapshot where
  pos := ⟨restingPosition s.axc.hsh, restingPosition s.axc.vsh, restingPosition s.axc.zom, focEntry s⟩
  focBase := recordsBase s
  geom := keystoneRecord s
  origin := o

/-- A jog or corner edit that repeats the origin of the top snapshot is coalesced (R79). -/
def coalesces (o : SnapOrigin) (h : List Snapshot) : Bool :=
  match o, h with
  | .jog a, top :: _ => top.origin = .jog a
  | .corner, top :: _ => top.origin = .corner
  | .jog _, [] => false
  | .corner, [] => false
  | .move, _ => false
  | .recalled, _ => false

/-- A history push (R79). -/
def pushHistory (o : SnapOrigin) (s : State) : State :=
  if coalesces o s.lmm.history then s
  else
    { s with lmm := { s.lmm with
        history := (snapshot s o :: s.lmm.history).take 8
        discards := if s.lmm.history.length < 8 then s.lmm.discards else satSucc 65535 s.lmm.discards } }

/-! ### The ends of a recall (R73, R74, R82) -/

/-- No axis is owed. -/
def owedEmpty (o : PerAxis Bool) : Bool := !(o.hsh || o.vsh || o.zom || o.foc)

/-- The RECALL_DONE notice of the recall on record (R82). -/
def recallNotice (l : Lmm) (res : Option MoveResult) (failing : Option Axis) (madeLive : Bool) : Notice :=
  .recallDone l.kind (match l.kind with | .recalled => l.slot | .back => none) res failing madeLive

/-- A recall that succeeds (R73). The record becomes inactive and keeps its kind and slot, which STATUS_GET shows (DESIGN
CHOICE, log entry 56). -/
def recallSucceeds (s : State) : State :=
  let n := recallNotice s.lmm none none s.lmm.staged.isSome
  let s1 :=
    match s.lmm.staged with
    | some g => handOver g s
    | none => s
  readyAfterRecall none (produce n { s1 with lmm := { s1.lmm with active := false, owed := PerAxis.all false } })

/-- A recall that fails (R74). The moves still owed go on; the owed set of the record, which STATUS_GET shows, is emptied
with it, and its kind and slot are kept (DESIGN CHOICE, log entry 56). -/
def recallFails (res : MoveResult) (a : Axis) (s : State) : State :=
  let n := recallNotice s.lmm (some res) (some a) false
  let s1 := discardStaged s
  readyAfterRecall (some res) (produce n { s1 with lmm := { s1.lmm with active := false, owed := PerAxis.all false } })

/-- An active recall whose owed set has become empty succeeds (R73). -/
def recallIfDone (s : State) : State :=
  if s.lmm.active && owedEmpty s.lmm.owed then recallSucceeds s else s

/-- An axis taken out of the owed set. -/
def leaveOwed (a : Axis) (s : State) : State := { s with lmm := { s.lmm with owed := s.lmm.owed.set a false } }

/-- AXC's report of the end of a move of origin RECALL or BACK (R73). -/
def recallReport (a : Axis) (res : MoveResult) (s : State) : State :=
  if s.lmm.active && s.lmm.owed.get a then
    (match res with
    | .done => recallIfDone (leaveOwed a s)
    | .superseded => recallIfDone (leaveOwed a s)
    | r => recallFails r a s)
  else s

/-- The end of a move: its MOTION_DONE notice and the reports inside the controller (R25). -/
def moveEnd (a : Axis) (res : MoveResult) (s : State) : State :=
  let r := s.axis a
  let s1 := produce (.motionDone a r.origin res r.position) s
  let s2 := if a = .foc then focusReport r.origin res s1 else s1
  match r.origin with
  | .recalled => recallReport a res s2
  | .back => recallReport a res s2
  | .home => homeEnded a s2
  | .user => s2
  | .comp => s2

end Sys2Proof.Machine
end

