-- ==== Sys2Proof/Machine/Rail.lean ====
section
/-! DEFINITION. The rail manager's table, queue and spacing (chapter 3), without the grants, which `Examine` makes. -/

namespace Sys2Proof.Machine
open Sys2Proof

/-! ### The reservation table (R47, R48) -/

/-- The entry of a consumer (R47). -/
def Rlm.entry (r : Rlm) : Consumer → Nat
  | .axis a => r.axes.get a
  | .brake => r.brake
  | .fan f => r.fans.get f

/-- The table with the entry of a consumer replaced. -/
def Rlm.setEntry (r : Rlm) (c : Consumer) (v : Nat) : Rlm :=
  match c with
  | .axis a => { r with axes := r.axes.set a v }
  | .brake => { r with brake := v }
  | .fan f => { r with fans := r.fans.set f v }

/-- The sum of the eight entries (R47). -/
def Rlm.sum (r : Rlm) : Nat :=
  r.axes.hsh + r.axes.vsh + r.axes.zom + r.axes.foc + r.brake + r.fans.fan0 + r.fans.fan1 + r.fans.fan2

/-- A report of a lower level (R48): an entry is never raised by a report (log entry 31). -/
def Rlm.lower (r : Rlm) (c : Consumer) (v : Nat) : Rlm := r.setEntry c (min v (r.entry c))

/-- The state with a consumer's entry lowered. -/
def lowerEntry (c : Consumer) (v : Nat) (s : State) : State := { s with rlm := s.rlm.lower c v }

/-! ### The start queue (R51, R52, R53, R60) -/

/-- The request of a consumer, if it has one. -/
def Rlm.request (r : Rlm) (c : Consumer) : Option StartReq := r.queue.find? fun q => q.requester = c

/-- The queue without a consumer's request (R60). -/
def Rlm.withdraw (r : Rlm) (c : Consumer) : Rlm := { r with queue := r.queue.filter fun q => q.requester ≠ c }

/-- The state with a consumer's request withdrawn. -/
def withdrawReq (c : Consumer) (s : State) : State := { s with rlm := s.rlm.withdraw c }

/-- A request with its need restated. -/
def restated (c : Consumer) (need : Nat) (ph : Bool) (q : StartReq) : StartReq :=
  if q.requester = c then { q with need := need, partnerHold := ph } else q

/-- A submission (R52): a request of the same class is restated, one of another class is replaced, and a new one
enters with a new arrival number and a time in queue of 0. -/
def Rlm.submit (r : Rlm) (now : Nat) (c : Consumer) (cls : StartClass) (need : Nat) (ph : Bool) : Rlm :=
  let enter := fun (r : Rlm) =>
    { r with queue := r.queue ++ [⟨c, cls, need, ph, r.nextArrival, now⟩], nextArrival := r.nextArrival + 1 }
  match r.request c with
  | none => enter r
  | some q => if q.cls = cls then { r with queue := r.queue.map (restated c need ph) } else enter (r.withdraw c)

/-- The rank of a class (R53). -/
def classRank : StartClass → Nat
  | .fan => 0
  | .brake => 1
  | .motor => 2
  | .comp => 3

/-- Whether one request comes before another (R53). -/
def before (p q : StartReq) : Bool :=
  classRank p.cls < classRank q.cls || (classRank p.cls = classRank q.cls && p.arrival < q.arrival)

/-- The head of a queue (R53). -/
def headOf : List StartReq → Option StartReq
  | [] => none
  | q :: rest =>
    match headOf rest with
    | none => some q
    | some h => some (if before h q then h else q)

/-! ### The spacing of grants (R56) -/

/-- The number of grants later than `now` − 250 ms. -/
def recentGrants (now : Nat) (grants : List Nat) : Nat := (grants.filter fun t => now < t + 250).length

/-- Whether the spacing allows a grant now (R56). -/
def spacingAllows (now : Nat) (grants : List Nat) : Bool :=
  grants.all (fun t => t + 20 ≤ now) && recentGrants now grants < 4

/-- The earliest moment a grant becomes allowed (R56): 20 ms after the most recent grant, or when the oldest of the
last four is 250 ms old. -/
def spacingMoment (grants : List Nat) : Nat :=
  match grants with
  | [] => 0
  | t :: _ => max (t + 20) (match grants[3]? with | some o => o + 250 | none => 0)

/-- The sum plus a need fits the budget (R54 condition 3). -/
def fits (r : Rlm) (need : Nat) : Bool := r.sum + need ≤ r.budget

/-- The three grant conditions of R54. -/
def grantable (s : State) (h : StartReq) : Bool :=
  s.drv.window.isNone && spacingAllows s.now s.rlm.grants && fits s.rlm h.need

/-! ### Running fans (R63) -/

/-- The entry of a RUNNING fan at a duty (R47). -/
def fanEntry (f : Fan) (d : Nat) : Nat := ceilDiv (ratedCurrent f * d) 1000

/-- RLM's answer to a duty report: the table, the allowed duty, and whether it was clamped (R63). -/
def Rlm.fanDuty (r : Rlm) (f : Fan) (d : Nat) : Rlm × Nat × Bool :=
  let old := r.entry (.fan f)
  let new := fanEntry f d
  if new ≤ old ∨ r.sum - old + new ≤ r.budget then (r.setEntry (.fan f) new, d, false)
  else
    let h := r.budget - r.sum + old
    let allowed := h * 1000 / ratedCurrent f
    (r.setEntry (.fan f) (fanEntry f allowed), allowed, true)

/-- A budget loaded from settings (R50). -/
def Rlm.loadBudget (r : Rlm) (b : Nat) : Rlm :=
  if r.sum ≤ b then { r with budget := b, budgetRaised := false } else { r with budget := r.sum, budgetRaised := true }

end Sys2Proof.Machine
end

