-- ==== Sys2Proof/Machine/Drive.lean ====
section
/-! DEFINITION. The drive channels (chapter 2): levels, open-load checks, latches and the calibration window. -/

namespace Sys2Proof.Machine
open Sys2Proof

/-! ### Levels (R27, R28, R29) -/

/-- The two channels of an axis. -/
def chansOf : Axis → Chan × Chan
  | .hsh => (.ch0, .ch1)
  | .vsh => (.ch2, .ch3)
  | .zom => (.ch4, .ch5)
  | .foc => (.ch6, .ch7)

/-- The axis that owns a channel; CH8 is the brake's. -/
def ownerOf : Chan → Option Axis
  | .ch0 => some .hsh
  | .ch1 => some .hsh
  | .ch2 => some .vsh
  | .ch3 => some .vsh
  | .ch4 => some .zom
  | .ch5 => some .zom
  | .ch6 => some .foc
  | .ch7 => some .foc
  | .ch8 => none

/-- A channel with any latch set (R27). -/
def Channel.latched (c : Channel) : Bool := c.overcurrent || c.openLoad || c.hitNotReached || c.calib

/-- A channel's level set by its owner (R27, R28, R29): a latched channel stays off; a rise from off or 0 to a setpoint
above 0 starts the open-load check; a lower level or off abandons it. -/
def Channel.setLevel (c : Channel) (now : Nat) (lvl : Option Nat) : Channel :=
  match lvl with
  | none => { c with level := none, check := none }
  | some v =>
    if c.latched then { c with level := none, check := none }
    else
      let old := c.level.getD 0
      { c with
        level := some v
        check := if old = 0 ∧ 0 < v then some (now + 5) else if v < old then none else c.check }

/-- One channel driven. -/
def driveChan (c : Chan) (lvl : Option Nat) (s : State) : State := s.setChan c ((s.chan c).setLevel s.now lvl)

/-- Both channels of an axis driven (R28). -/
def driveAxis (a : Axis) (lvl : Option Nat) (s : State) : State :=
  driveChan (chansOf a).2 lvl (driveChan (chansOf a).1 lvl s)

/-- An axis is energised when its coils are driven (R2). -/
def energised (s : State) (a : Axis) : Bool :=
  (s.chan (chansOf a).1).level.isSome || (s.chan (chansOf a).2).level.isSome

/-- Both channels of an axis are driven. -/
def pairDriven (s : State) (a : Axis) : Bool :=
  (s.chan (chansOf a).1).level.isSome && (s.chan (chansOf a).2).level.isSome

/-- The channel pairs of HSH and VSH are driven (R43). -/
def shiftDriven (s : State) : Bool := pairDriven s .hsh && pairDriven s .vsh

/-- The coils of an axis at its RUN current. -/
def driveRun (a : Axis) (s : State) : State := driveAxis a (some (s.axis a).settings.run) s

/-- The coils of an axis at its HOLD current. -/
def driveHold (a : Axis) (s : State) : State := driveAxis a (some (s.axis a).settings.hold) s

/-- All nine channels are off (R36). -/
def allOff (d : Drv) : Bool := d.chans.toList.all fun c => c.level.isNone

/-- A channel turned off (R28). -/
def Channel.off (c : Channel) : Channel := { c with level := none, check := none }

/-- All nine channels turned off at once (R33, R34). -/
def allChannelsOff (s : State) : State := { s with drv := { s.drv with chans := s.drv.chans.map Channel.off } }

/-! ### Latches (R29 to R31) -/

/-- A channel with a latch set, and off. -/
def Channel.setLatch (c : Channel) (l : Latch) : Channel :=
  match l with
  | .overcurrent => { c.off with overcurrent := true }
  | .openLoad => { c.off with openLoad := true }
  | .hitNotReached => { c.off with hitNotReached := true }
  | .calib => { c.off with calib := true }

/-- A latch set on a channel: the channel is off and a FAULT notice is produced (R29, R30, R31), before the notice of the
move that ends (DESIGN CHOICE, log entry 59). -/
def latchChan (c : Chan) (l : Latch) (s : State) : State :=
  produce (.fault (.channel c l)) (s.setChan c ((s.chan c).setLatch l))

/-- AXIS_CLEAR's clearing of a channel's latches (R26). -/
def Channel.clearAxisLatches (c : Channel) : Channel :=
  { c with overcurrent := false, openLoad := false, calib := false }

/-- BRAKE_CLEAR's clearing of CH8's latches (R45). -/
def Channel.clearLatches (c : Channel) : Channel :=
  { c with overcurrent := false, openLoad := false, hitNotReached := false, calib := false }

/-- A sensed current as the record holds it, 0 to 2,000 mA (R27). -/
def Channel.sense (c : Channel) (current : Nat) : Channel := { c with sensed := min current 2000 }

/-! ### The calibration window (R36, R37) -/

/-- The window opened: it stays open 30 ms (R36, R37). -/
def openWindow (s : State) : State := { s with drv := { s.drv with window := some (s.now + 30) } }

/-- The window opens when the run is due, all channels are off and the window is CLOSED (R36). -/
def openIfDue (s : State) : State :=
  if s.drv.window.isNone && s.drv.due && allOff s.drv then openWindow s else s

/-- The offsets stored and judged at the end of a window (R37): saturated to −64..+63, CALIB outside −48..+48. -/
def Channel.calibrate (c : Channel) (zero : Int) : Channel :=
  let o := clampInt (-64) 63 zero
  if o < -48 ∨ 48 < o then { c with offset := o, calib := true } else { c with offset := o }

end Sys2Proof.Machine
end

