-- ==== Sys2Proof/Machine/Brake.lean ====
section
/-! DEFINITION. The brake controller's answers to release, cancel, engage and forced-engage requests (R40, R42, R43).
The clamped report is an answer, which AXC takes. -/

namespace Sys2Proof.Machine
open Sys2Proof

/-- The carriage is clamped: ENGAGED, or FAULTED with no clamp pending (R39). -/
def brakeClamped (b : Brk) : Bool :=
  match b.state with
  | .engaged => true
  | .faulted => !b.clampPending
  | .releasing => false
  | .released => false
  | .engaging => false

/-- The BRAKE start request submitted (R40). -/
def submitBrake (s : State) : State :=
  { s with
    rlm := s.rlm.submit s.now .brake .brake s.brk.settings.hit false
    brk := { s.brk with releaseQueued := true } }

/-- A queued release withdrawn (R40, R42, R43). -/
def withdrawBrake (s : State) : State :=
  if s.brk.releaseQueued then { withdrawReq .brake s with brk := { s.brk with releaseQueued := false } } else s

/-- A release request (R40). The start request is submitted only while both shift pairs are driven (R43). -/
def brakeRelease (s : State) : State :=
  match s.brk.state with
  | .engaged => if s.brk.releaseQueued || !shiftDriven s then s else submitBrake s
  | .releasing => { s with brk := { s.brk with next := if s.brk.next = some .engage then none else s.brk.next } }
  | .released => s
  | .engaging => { s with brk := { s.brk with next := some .release } }
  | .faulted => s

/-- A cancel of the release (R40). -/
def brakeCancel (s : State) : State :=
  match s.brk.state with
  | .engaged => withdrawBrake s
  | .engaging => { s with brk := { s.brk with next := none } }
  | .releasing => s
  | .released => s
  | .faulted => s

/-- CH8 off and the brake ENGAGING with the engage time (R42, R43). -/
def startEngage (s : State) : State :=
  let s' := lowerEntry .brake 0 (driveChan .ch8 none s)
  { s' with brk := { s'.brk with
      state := .engaging, next := none, timer := some (s'.now + s'.brk.settings.engageTime) } }

/-- An engage request (R42): the state, and whether the clamped report is sent at once. -/
def brakeEngage (s : State) : State × Bool :=
  match s.brk.state with
  | .released => (startEngage s, false)
  | .releasing => ({ s with brk := { s.brk with next := some .engage } }, false)
  | .engaging => ({ s with brk := { s.brk with next := none } }, false)
  | .engaged => (withdrawBrake s, true)
  | .faulted => (s, !s.brk.clampPending)

/-- A forced engage (R43): the state, and whether the clamped report is sent at once. -/
def brakeForce (s : State) : State × Bool :=
  match s.brk.state with
  | .releasing => (startEngage s, false)
  | .released => (startEngage s, false)
  | .engaged => (withdrawBrake s, true)
  | .engaging => ({ s with brk := { s.brk with next := none } }, false)
  | .faulted => (s, !s.brk.clampPending)

end Sys2Proof.Machine
end

