-- ==== Sys2Proof/Machine/Axis.lean ====
section
/-! DEFINITION. The axis controller (chapter 1): starts, withdrawals, settles, faults, stops and the forced engage, as
shared operations. None of them examines the start queue. -/

namespace Sys2Proof.Machine
open Sys2Proof

/-! ### Rest states -/

/-- The referenced flag made false; FCP is told of FOC's (R5, R158). -/
def unreference (a : Axis) (s : State) : State :=
  let s' := s.setAxis a { s.axis a with referenced := false }
  if a = .foc then invalidateBase s' else s'

/-- An axis de-energised to PARKED, with its entry 0 (R2, R21). -/
def parkAxis (a : Axis) (s : State) : State :=
  lowerEntry (.axis a) 0 (driveAxis a none (s.setAxis a { s.axis a with state := .parked, mustPark := false }))

/-- An axis at HOLD in HOLDING, with its entry 2 × HOLD (R2, R21). -/
def holdAxis (a : Axis) (s : State) : State :=
  lowerEntry (.axis a) (2 * (s.axis a).settings.hold) (driveHold a (s.setAxis a { s.axis a with state := .holding }))

/-- A record is MOVING or HOMING, and not in the deceleration a forced engage began (R23). -/
def movesOn (r : AxisRec) : Bool :=
  (r.state = .moving || r.state = .homing) && r.endResult ≠ some .brakeEngaged

/-- A shift axis has a move in MOVING or HOMING that no forced engage is ending. -/
def shiftMoves (s : State) : Bool := movesOn s.axc.hsh || movesOn s.axc.vsh

/-- A shift axis has a move in WAIT_START. -/
def shiftWaits (s : State) : Bool := [s.axc.hsh.state, s.axc.vsh.state].any fun st => st = .waitStart

/-- An axis that is not yet at rest owes its parking: it is taken at its settle's end (R23). -/
def owePark (a : Axis) (s : State) : State := s.setAxis a { s.axis a with mustPark := true }

/-- The clamped report at one shift axis, which parks when it must or when no shift axis moves on (R21, R23). An axis in
SETTLING completes its settle first, whatever move the settle belongs to, and an axis that still decelerates for a
forced engage comes to rest and settles first; either is parked at that settle's end (log entry 51). -/
def parkClamped (moves : Bool) (a : Axis) (s : State) : State :=
  let r := s.axis a
  match r.state with
  | .holding => if r.mustPark ∨ moves = false then parkAxis a s else s
  | .settling => if r.mustPark ∨ moves = false then owePark a s else s
  | .moving => if r.endResult = some .brakeEngaged then owePark a s else s
  | .homing => if r.endResult = some .brakeEngaged then owePark a s else s
  | .parked => s
  | .waitStart => s
  | .faulted => s

/-- The clamped report taken by AXC (R21, R23): with a move in WAIT_START both shift axes stay as they are. -/
def clampedReport (s : State) : State :=
  if shiftWaits s then s else parkClamped (shiftMoves s) .vsh (parkClamped (shiftMoves s) .hsh s)

/-- AXC's engage check, made when a shift axis enters HOLDING (R21). -/
def engageCheck (s : State) : State :=
  if s.axc.hsh.state = .holding ∧ s.axc.vsh.state = .holding ∧
      s.axc.hsh.settings.idle = .park ∧ s.axc.vsh.settings.idle = .park then
    let r := brakeEngage s
    if r.2 then clampedReport r.1 else r.1
  else s

/-- The engage check after `a` came to rest, when it is a shift axis in HOLDING (R21). -/
def engageIfHolding (a : Axis) (s : State) : State :=
  if isShift a && (s.axis a).state = .holding then engageCheck s else s

/-! ### Settle (R20, R21, R24) -/

/-- A shift axis that holds and owes its parking is PARKED while the carriage is clamped and no shift move waits (R21,
R23); its pair turned off withdraws a release queued in ENGAGED since (R41, R43). While a shift move waits the parking stays owed,
to be taken when the start is withdrawn (log entry 12). -/
def parkOwed (a : Axis) (s : State) : State :=
  if (s.axis a).state = .holding && (s.axis a).mustPark && brakeClamped s.brk && !shiftWaits s then
    if s.brk.state = .engaged then withdrawBrake (parkAxis a s) else parkAxis a s
  else s

/-- The parkings owed, once a shift axis has left WAIT_START (R23). -/
def parkBothOwed (s : State) : State := parkOwed .vsh (parkOwed .hsh s)

/-- The idle state of an axis at the end of its settle (R21, R23, R24). -/
def takeIdle (a : Axis) (s : State) : State :=
  let r := s.axis a
  if isShift a then parkOwed a (holdAxis a s)
  else if r.settings.idle = .park || regimeClosed s.ths.regime then parkAxis a s
  else holdAxis a s

/-- The end of a settle (R20). -/
def settleEnds (a : Axis) (s : State) : State :=
  let r := s.axis a
  let s1 := takeIdle a (s.setAxis a { r with endResult := none, settleMove := false })
  let s2 := if r.settleMove then moveEnd a (r.endResult.getD .done) s1 else s1
  engageIfHolding a s2

/-- A settle that has no time left ends at once (R20). -/
def settleIfOver (a : Axis) (s : State) : State :=
  if (s.axis a).state = .settling ∧ (s.axis a).settleEnd ≤ s.now then settleEnds a s else s

/-- An axis enters SETTLING (R20); `ofMove` tells whether the settle belongs to a move. -/
def toSettling (a : Axis) (ofMove : Bool) (s : State) : State :=
  let r := s.axis a
  s.setAxis a { r with
    state := .settling, settleMove := ofMove, settleEnd := s.now + r.settings.settle, speed := 0, frac := 0
    profile := .rest, leg := .none, granted := false, pendingTarget := none }

/-- The motion of a move is over: it settles (R20). -/
def enterSettle (a : Axis) (s : State) : State := settleIfOver a (toSettling a true s)

/-! ### Start requests (R8, R10, R52) -/

/-- A start is one from SETTLING (R14): the axis settles, or waits with resume state SETTLING. -/
def fromSettling (r : AxisRec) : Bool :=
  match r.state with
  | .settling => true
  | .waitStart => r.resume = .settling
  | .parked => false
  | .holding => false
  | .moving => false
  | .homing => false
  | .faulted => false

/-- The start of a shift axis takes in the hold of a partner that is de-energised (R8). A start from SETTLING never does:
its need is 0 (R14, R52), and so its partner hold is false (R51: DEDUCED, log entry 52). -/
def needsPartner (s : State) (a p : Axis) : Bool :=
  !fromSettling (s.axis a) && ((s.axis p).state = .parked || (s.axis p).state = .waitStart) && !energised s p

/-- The need of an axis's start and whether it includes its partner's hold (R8, R52): 2 × RUN less the axis's present
entry, and the partner's 2 × HOLD where `needsPartner`. From SETTLING the entry stands at 2 × RUN (R2, R47), which gives
R14's 2 × (RUN − RUN) = 0 whatever the partner does. -/
def axisNeed (s : State) (a : Axis) : Nat × Bool :=
  let base := 2 * (s.axis a).settings.run - s.rlm.entry (.axis a)
  match partnerOf a with
  | none => (base, false)
  | some p => if needsPartner s a p then (base + 2 * (s.axis p).settings.hold, true) else (base, false)

/-- The class of an axis's start (R8). -/
def startClass (o : Origin) : StartClass := if o = .comp then .comp else .motor

/-- The release is cancelled when no shift axis waits for it any more (R40). -/
def cancelIfUnwanted (s : State) : State :=
  if s.axc.hsh.granted || s.axc.vsh.granted then s else brakeCancel s

/-- Whether a withdrawal with this result may lead back to a settle: the first three events of R10 leave the axis
"energised and unhurt"; R23 governs BRAKE_FAULT and BRAKE_ENGAGED. -/
def backToSettle (res : MoveResult) (r : AxisRec) : Bool :=
  r.resume = .settling && (res = .stopped || res = .noBudget || res = .thermal)

/-- The rest state of an axis whose start is withdrawn (R10, R23, R24). -/
def restAfterWithdrawal (a : Axis) (res : MoveResult) (s : State) : State :=
  if energised s a then
    if backToSettle res (s.axis a) then driveRun a (toSettling a false s)
    else if regimeClosed s.ths.regime && !isShift a then parkAxis a s
    else holdAxis a s
  else parkAxis a s

/-- A start withdrawn from WAIT_START (R10); a parking that a shift start held off is taken then (R23). -/
def withdrawStart (a : Axis) (res : MoveResult) (s : State) : State :=
  let r := s.axis a
  let s1 := withdrawReq (.axis a) (s.setAxis a { r with pendingTarget := none, granted := false })
  let s2 := moveEnd a res (restAfterWithdrawal a res s1)
  let s3 := if r.granted then cancelIfUnwanted s2 else s2
  let s4 := if (s3.axis a).state = .settling then settleIfOver a s3 else engageIfHolding a s3
  if isShift a then parkBothOwed s4 else s4

/-- The start request of an axis submitted (R8, R52); in EMERGENCY and SHUTDOWN it is withdrawn at once. -/
def submitAxis (a : Axis) (s : State) : State :=
  if regimeClosed s.ths.regime then withdrawStart a .thermal s
  else
    { s with rlm := s.rlm.submit s.now (.axis a) (startClass (s.axis a).origin) (axisNeed s a).1 (axisNeed s a).2 }

/-! ### Faults (R19, R22, R23) -/

/-- A move is in progress: WAIT_START, HOMING, MOVING, or a SETTLING that belongs to a move (R22). -/
def moveInProgress (r : AxisRec) : Bool :=
  match r.state with
  | .waitStart => true
  | .homing => true
  | .moving => true
  | .settling => r.settleMove
  | .parked => false
  | .holding => false
  | .faulted => false

/-- An axis made FAULTED without deceleration (R19, R22). -/
def faultAxis (a : Axis) (cause : AxisCause) (res : MoveResult) (s : State) : State :=
  let r := s.axis a
  let s1 := s.setAxis a { r with
    state := .faulted, faultCause := some cause, pendingTarget := none, granted := false, mustPark := false
    settleMove := false, endResult := none, speed := 0, frac := 0, profile := .rest, leg := .none }
  let s2 := lowerEntry (.axis a) 0 (withdrawReq (.axis a) (driveAxis a none (unreference a s1)))
  let s3 := if moveInProgress r then moveEnd a res s2 else s2
  if r.granted then cancelIfUnwanted s3 else s3

/-- A forced engage reaches one shift axis (R23). -/
def forcedPartner (a : Axis) (s : State) : State :=
  let r := s.axis a
  match r.state with
  | .moving => s.setAxis a { decelToEnd r .brakeEngaged with mustPark := true }
  | .homing => s.setAxis a { decelToEnd r .brakeEngaged with mustPark := true }
  | .waitStart => withdrawStart a .brakeEngaged (s.setAxis a { r with mustPark := true })
  | .settling => owePark a s
  | .holding => owePark a s
  | .parked => s
  | .faulted => s

/-- The brake forced to engage, and the shift axes that are not FAULTED handled (R23, R43). -/
def forceEngage (s : State) : State :=
  let r := brakeForce s
  let s' := forcedPartner .vsh (forcedPartner .hsh r.1)
  if r.2 then clampedReport s' else s'

/-- A fault of an axis's own, with the forced engage of a shift axis (R19, R22, R23). -/
def faultAndForce (a : Axis) (cause : AxisCause) (res : MoveResult) (s : State) : State :=
  let s' := faultAxis a cause res s
  if isShift a then forceEngage s' else s'

/-- A block condition reaches one axis (R22): energised, it is FAULTED; waiting de-energised, its start is
withdrawn. -/
def blockFaultAxis (cause : AxisCause) (res : MoveResult) (hot : Axis → Bool) (a : Axis) (s : State) : State :=
  if hot a then faultAxis a cause res s
  else if (s.axis a).state = .waitStart then withdrawStart a res s
  else s

/-- DRIVER_HOT or RAIL_LOW begins: all channels off, every axis handled, the brake forced to engage (R33, R34). -/
def blockFault (cause : AxisCause) (res : MoveResult) (s : State) : State :=
  let hot := energised s
  let s1 := allAxes.foldl (fun t a => blockFaultAxis cause res hot a t) (allChannelsOff s)
  forceEngage s1

/-! ### The brake's own faults (R23, R44) -/

/-- A shift start ended by a fault of the brake (R23, R44). -/
def brakeFaultStart (a : Axis) (s : State) : State :=
  if (s.axis a).state = .waitStart then withdrawStart a .brakeFault s else s

/-- A shift axis that holds is parked, since the carriage is clamped (R23, R44); one that settles, or still decelerates
for a forced engage, parks at its settle's end. -/
def parkAtRest (a : Axis) (s : State) : State :=
  match (s.axis a).state with
  | .holding => parkAxis a s
  | .settling => owePark a s
  | .homing => owePark a s
  | .moving => owePark a s
  | .parked => s
  | .waitStart => s
  | .faulted => s

/-- A shift axis that is not yet parked owes its parking to the end of clamp pending (R44). -/
def parkWhenClamped (a : Axis) (s : State) : State :=
  match (s.axis a).state with
  | .holding => owePark a s
  | .settling => owePark a s
  | .homing => owePark a s
  | .moving => owePark a s
  | .parked => s
  | .waitStart => s
  | .faulted => s

/-- CH8 off and the brake FAULTED (R44). -/
def brakeToFaulted (c : BrakeCause) (s : State) : State :=
  let s' := lowerEntry .brake 0 (driveChan .ch8 none s)
  { s' with brk := { s'.brk with state := .faulted, cause := some c, next := none, timer := none } }

/-- The brake goes FAULTED, by the state it is in (R44). A fault in ENGAGING, which R44 does not list, leaves the rest
of the engage time as clamp pending (log entry 35); one in FAULTED, which it does not list either, keeps the first cause
(log entry 53). -/
def brakeFault (c : BrakeCause) (s : State) : State :=
  match s.brk.state with
  | .releasing =>
    let s' := brakeFaultStart .vsh (brakeFaultStart .hsh (brakeToFaulted c s))
    parkAtRest .vsh (parkAtRest .hsh s')
  | .released =>
    let s0 := brakeToFaulted c s
    let s1 := { s0 with brk := { s0.brk with
      clampPending := true, timer := some (s0.now + s0.brk.settings.engageTime) } }
    let s2 := brakeFaultStart .vsh (brakeFaultStart .hsh s1)
    forcedPartner .vsh (forcedPartner .hsh s2)
  | .engaged => brakeFaultStart .vsh (brakeFaultStart .hsh (brakeToFaulted c (withdrawBrake s)))
  | .engaging =>
    let s0 := brakeToFaulted c s
    let s1 := brakeFaultStart .vsh (brakeFaultStart .hsh
      { s0 with brk := { s0.brk with clampPending := true, timer := s.brk.timer } })
    parkWhenClamped .vsh (parkWhenClamped .hsh s1)
  | .faulted => s

/-! ### Motion requests (R6, R7, R13, R14, R16) -/

/-- The kinds of motion request (R6). -/
inductive Ask where
  | absolute | jog | home
  deriving DecidableEq, Repr

/-- Check 4 of R6: the axis, a block condition, the brake or the partner stands in the way. -/
def motionFault (s : State) (a : Axis) : Bool :=
  (s.axis a).state = .faulted || s.drv.driverHot || s.drv.railLow ||
  (match partnerOf a with
  | some p => s.brk.state = .faulted || (s.axis p).state = .faulted
  | none => false)

/-- Check 5 of R6. -/
def motionBusy (r : AxisRec) (k : Ask) : Bool :=
  match r.state with
  | .homing => true
  | .waitStart => r.origin = .home || k = .home
  | .moving => k = .home
  | .settling => k = .home
  | .parked => false
  | .holding => false
  | .faulted => false

/-- The refusal of a new target while the axis decelerates for a decided end (R13). -/
def decidedEnd (r : AxisRec) : Option Result :=
  match r.state, r.endResult with
  | .moving, some .thermal => some .thermal
  | .moving, some .brakeEngaged => some .fault
  | _, _ => none

/-- Checks 3 to 6 of R6, and R13's refusal (log entry 14). -/
def motionCheck (s : State) (a : Axis) (k : Ask) : Option Result :=
  if regimeClosed s.ths.regime then some .thermal
  else if motionFault s a then some .fault
  else if motionBusy (s.axis a) k then some .busy
  else if k = .absolute ∧ (s.axis a).referenced = false then some .state
  else decidedEnd (s.axis a)

/-- The target of an absolute move (R7). -/
def absTarget (r : AxisRec) (t : Int) : Int := clampTravel r.settings t

/-- The count and the target of a jog (R7). -/
def jogTarget (r : AxisRec) (count : Int) : Int × Bool :=
  let n := clampInt (-4000) 4000 count
  let base :=
    match r.state with
    | .waitStart => r.pendingTarget.getD r.position
    | .moving => r.target
    | .parked => r.position
    | .homing => r.position
    | .settling => r.position
    | .holding => r.position
    | .faulted => r.position
  let t := clampReach r (base + n)
  (t, n ≠ count || t ≠ base + n)

/-- A move of origin `o` ends the move in progress with SUPERSEDED when the origins differ (R14). -/
def supersede (a : Axis) (o : Origin) (s : State) : State :=
  if (s.axis a).origin = o then s else moveEnd a .superseded s

/-- An accepted move of zero length: no start is needed (R7). -/
def zeroLength (r : AxisRec) (t : Int) : Bool :=
  t = r.position && (r.lastDir = r.settings.approach || r.settings.takeup = 0)

/-- A start from rest or from a settle (R8, R14). -/
def startFrom (resume : Resume) (a : Axis) (o : Origin) (t : Int) (cls : Speed) (s : State) : State :=
  submitAxis a (s.setAxis a { s.axis a with
    state := .waitStart, resume := resume, pendingTarget := some t, origin := o, speedClass := cls
    endResult := none, settleMove := false, granted := false })

/-- A move or home from PARKED or HOLDING (R7, R8). -/
def startAtRest (resume : Resume) (a : Axis) (o : Origin) (t : Int) (cls : Speed) (s : State) : State :=
  if o ≠ .home ∧ zeroLength (s.axis a) t then
    moveEnd a .done (s.setAxis a { s.axis a with origin := o, speedClass := cls })
  else startFrom resume a o t cls s

/-- A replacement in WAIT_START (R14): the request keeps its place unless its class changes. -/
def replaceWaiting (a : Axis) (o : Origin) (t : Int) (cls : Speed) (s : State) : State :=
  let s1 := supersede a o s
  let r := s1.axis a
  let s2 := s1.setAxis a { r with pendingTarget := some t, origin := o, speedClass := cls }
  if startClass r.origin = startClass o then s2 else submitAxis a s2

/-- An accepted move taken by the state of the axis (R6, R13, R14). -/
def takeMove (a : Axis) (o : Origin) (t : Int) (cls : Speed) (s : State) : State :=
  match (s.axis a).state with
  | .parked => startAtRest .parked a o t cls s
  | .holding => startAtRest .holding a o t cls s
  | .waitStart => replaceWaiting a o t cls s
  | .moving =>
    let s1 := supersede a o s
    s1.setAxis a { retarget (s1.axis a) t cls with origin := o }
  | .settling => startFrom .settling a o t cls (if (s.axis a).settleMove then supersede a o s else s)
  | .homing => s
  | .faulted => s

/-- An accepted home (R16). -/
def takeHome (a : Axis) (s : State) : State :=
  let resume : Resume := if (s.axis a).state = .holding then .holding else .parked
  startFrom resume a .home (s.axis a).settings.refPos .slow (unreference a s)

/-! ### AXIS_STOP (R15, R75) -/

/-- The stop of a recall's move told to lens memory (R75). -/
def stopReport (a : Axis) (s : State) : State :=
  match (s.axis a).origin with
  | .recalled => if s.lmm.active && s.lmm.owed.get a then recallFails .stopped a s else s
  | .back => if s.lmm.active && s.lmm.owed.get a then recallFails .stopped a s else s
  | .user => s
  | .comp => s
  | .home => s

/-- AXIS_STOP on one axis (R15, R75); an end already decided stands. The recall fails before its withdrawn move ends, so
that R73 ignores the move's report (R75): RECALL_DONE is produced before MOTION_DONE (log entry 50). -/
def stopAxis (a : Axis) (s : State) : State :=
  let r := s.axis a
  match r.state with
  | .moving => if r.endResult.isSome then s else stopReport a (s.setAxis a (decelToEnd r .stopped))
  | .homing => if r.endResult.isSome then s else s.setAxis a (decelToEnd r .stopped)
  | .waitStart => withdrawStart a .stopped (stopReport a s)
  | .parked => s
  | .settling => s
  | .holding => s
  | .faulted => s

/-! ### Motion begins and ends (R9, R11 to R13, R16, R17) -/

/-- The motion of a granted start begins, with the coils at RUN (R9, R16). -/
def beginMotion (a : Axis) (s : State) : State :=
  let s' := driveRun a s
  let r := s'.axis a
  s'.setAxis a (if r.origin = .home then beginSearch r (s.refActive.get a) else beginMove r (r.pendingTarget.getD r.target))

/-- A shift axis that waited for the brake begins its motion (R9). -/
def startWaiting (a : Axis) (s : State) : State :=
  if (s.axis a).state = .waitStart ∧ (s.axis a).granted then beginMotion a s else s

/-- A leg has come to rest on its turn point (R11 to R13, R15, R17, R23, R24). -/
def legEnds (a : Axis) (s : State) : State :=
  let r := atRest (s.axis a)
  let s' := s.setAxis a r
  match r.leg with
  | .toTarget => enterSettle a s'
  | .takeup => enterSettle a s'
  | .stop => enterSettle a s'
  | .overshoot => s'.setAxis a (beginTakeup r)
  | .reversal => s'.setAxis a (beginReversed r)
  | .overrun => s'.setAxis a (beginReturn r)
  | .homeOvershoot => s'.setAxis a (beginReturnTakeup r)
  | .homeReturn => enterSettle a (s'.setAxis a { r with referenced := true })
  | .homeFail => faultAndForce a .homeFail .homeFail s'
  | .search => s'
  | .none => s'

/-! ### Entry to EMERGENCY and SHUTDOWN (R24, R61) -/

/-- One axis at the entry to EMERGENCY or SHUTDOWN (R24). An axis of a recall that is SETTLING completes its settle with
the end it has, DONE among them (log entry 54). -/
def regimeAxis (a : Axis) (s : State) : State :=
  let r := s.axis a
  match r.state with
  | .moving => s.setAxis a (decelToEnd r .thermal)
  | .homing => s.setAxis a (decelToEnd r .thermal)
  | .waitStart => withdrawStart a .thermal s
  | .holding => if isShift a then s else parkAxis a s
  | .parked => s
  | .settling => s
  | .faulted => s

/-- The four axes at the entry to EMERGENCY or SHUTDOWN (R24). -/
def regimeAxes (s : State) : State := allAxes.foldl (fun t a => regimeAxis a t) s

/-! ### The brake's timers (R41, R42, R44) -/

/-- The carriage is released, and no parking is owed any more (R23; log entry 12). -/
def forgetOwed (s : State) : State :=
  { s with axc := { s.axc with
      hsh := { s.axc.hsh with mustPark := false }, vsh := { s.axc.vsh with mustPark := false } } }

/-- The brake RELEASED (R41): CH8 at HOLD, and every shift axis that waits starts; next action ENGAGE passes on to
ENGAGING at once. -/
def brakeReleased (s : State) : State :=
  let s0 := lowerEntry .brake s.brk.settings.hold (driveChan .ch8 (some s.brk.settings.hold) s)
  let s1 := { s0 with brk := { s0.brk with state := .released, timer := none } }
  if s1.brk.next = some .engage then startEngage s1
  else startWaiting .vsh (startWaiting .hsh (forgetOwed { s1 with brk := { s1.brk with next := none } }))

/-- The release judged at the end of the HIT time (R41). The FAULT notice is queued before those of the starts that end
(DESIGN CHOICE, log entry 59). -/
def judgeRelease (s : State) : State :=
  if !s.brk.hitReached then brakeFault .hitNotReached (latchChan .ch8 .hitNotReached s)
  else if !s.brk.dipSeen then brakeFault .noRelease (produce (.fault .noRelease) s)
  else brakeReleased s

/-- The end of the engage time (R40, R42): ENGAGED, the clamped report, and the release that waits for it, submitted
only while both shift pairs are driven (R43). -/
def engageEnds (s : State) : State :=
  let queued : Bool := s.brk.next = some .release
  let s1 := clampedReport { s with brk := { s.brk with state := .engaged, next := none, timer := none } }
  if queued then brakeRelease s1 else s1

/-- The end of clamp pending (R44). -/
def clampEnds (s : State) : State :=
  clampedReport { s with brk := { s.brk with clampPending := false, timer := none } }

end Sys2Proof.Machine
end

