-- ==== Sys2Proof/Machine/Fan.lean ====
section
/-! DEFINITION. The fan controller (chapter 8): demand, caps, slew, the rail's answer, the tach check and the events
that lower a duty at once. None of these examines the start queue. -/

namespace Sys2Proof.Machine
open Sys2Proof

/-! ### The output (R128) -/

/-- The duty on a fan's output FPWM0..2, in permille: 0 in STOPPED, the applied duty in SPINUP and RUNNING (R128). -/
def FanRec.output (r : FanRec) : Nat :=
  match r.state with
  | .stopped => 0
  | .spinup => r.applied
  | .running => r.applied

/-- The fan outputs FPWM0..2 (R128). -/
def State.fpwm (s : State) : PerFan Nat := ⟨s.fan.recs.fan0.output, s.fan.recs.fan1.output, s.fan.recs.fan2.output⟩

/-! ### Demand (R131 to R133) -/

/-- The value of a curve between two points (R131). -/
def between (p q : Point) (t : Int) : Int :=
  roundDiv ((p.d : Int) * (q.t - p.t) + ((q.d : Int) - (p.d : Int)) * (t - p.t)) (q.t - p.t)

/-- The value of a curve at a temperature (R131). -/
def curveValue (c : Curve) (t : Int) : Int :=
  if t ≤ c.p1.t then c.p1.d
  else if t < c.p2.t then between c.p1 c.p2 t
  else if t < c.p3.t then between c.p2 c.p3 t
  else if t < c.p4.t then between c.p3 c.p4 t
  else if t < c.p5.t then between c.p4 c.p5 t
  else c.p5.d

/-- The temperature of a mapped sensor: its published value, or its HIGH threshold when it is faulted or publishes
none (R131). -/
def mappedTemp (s : State) (sel : ∀ {α : Type}, PerThermo α → α) : Int :=
  let high := (sel s.ths.limits).high
  match s.ssc.published with
  | none => high
  | some p => if (sel p.chans.thermo).flag = .ok then (sel p.chans.thermo).value.getD high else high

/-- The temperatures of the sensors mapped to a fan (chapter 8). -/
def mappedTemps (s : State) : Fan → List Int
  | .fan0 => [mappedTemp s PerThermo.lsb, mappedTemp s PerThermo.img]
  | .fan1 => [mappedTemp s PerThermo.ain, mappedTemp s PerThermo.psu]
  | .fan2 => [mappedTemp s PerThermo.aex, mappedTemp s PerThermo.lsb]

/-- The curve of a fan for the effective orientation (R133). -/
def curveInUse (s : State) (f : Fan) : Curve :=
  match s.geo.orientation with
  | .floor => (s.fan.curves.get f).floor
  | .ceiling => (s.fan.curves.get f).ceiling

/-- The light demand FAN uses: 0 while the enable flag is clear (R132). -/
def lightDemandUsed (s : State) : Nat := if s.ths.lightEnable then s.ths.lightDemand else 0

/-- The feed-forward of a fan (R132). -/
def feedForward (s : State) : Fan → Int
  | .fan0 => roundDiv ((s.fan.lightFF : Int) * (lightDemandUsed s : Int)) 1000
  | .fan1 => 0
  | .fan2 => 0

/-- The greatest curve value over a list of temperatures (R131). -/
def greatestValue (c : Curve) (ts : List Int) : Int := (ts.map (curveValue c)).foldl max 0

/-- The demand of a fan (R131, R132). -/
def demandOf (s : State) (f : Fan) : Nat :=
  (clampInt (minDuty f) 1000 (greatestValue (curveInUse s f) (mappedTemps s f) + feedForward s f)).toNat

/-! ### Caps and slew (R134, R135) -/

/-- The cap in force (R134). -/
def capOf (regime : Regime) (priority : CapPriority) (quiet : QuietLevel) (f : Fan) : Option Nat :=
  match regime, priority with
  | .quiet, _ => some (quietCap quiet f)
  | .limited, .quietFirst => some (quietCap quiet f)
  | .limited, .coolFirst => none
  | .override, _ => none
  | .emergency, _ => none
  | .shutdown, _ => none

/-- The cap in force now (R134). -/
def capNow (s : State) (f : Fan) : Option Nat := capOf s.ths.regime s.ths.priority s.ths.quiet f

/-- The capped duty (R134). -/
def cappedDutyOf (regime : Regime) (cap : Option Nat) (demand : Nat) : Nat :=
  if regimeClosed regime then 1000
  else
    match cap with
    | some c => min demand c
    | none => demand

/-- CAPPED: a cap is in force and the demand exceeds it (R134). -/
def isCapped (cap : Option Nat) (demand : Nat) : Bool :=
  match cap with
  | some c => c < demand
  | none => false

/-- The slew of one control period (R135). -/
def slew (regime : Regime) (applied target : Nat) : Nat :=
  if regimeClosed regime then 1000
  else if applied < target then applied + min 50 (target - applied)
  else applied - min 20 (applied - target)

/-! ### The control period (R130, R137, R138) -/

/-- Steps 1 to 4 of R130 for one fan. -/
def fanSteer (f : Fan) (s : State) : State :=
  let r := s.fanRec f
  let demand := demandOf s f
  let cap := capNow s f
  let target := cappedDutyOf s.ths.regime cap demand
  let r1 := { r with demand := demand, cap := cap, cappedDuty := target, capped := isCapped cap demand }
  let duty := slew s.ths.regime r.applied target
  match r.state with
  | .running =>
    let ans := s.rlm.fanDuty f duty
    { s with rlm := ans.1 }.setFan f { r1 with applied := ans.2.1, railLimited := ans.2.2 }
  | .spinup => s.setFan f { r1 with applied := duty }
  | .stopped => s.setFan f { r1 with applied := duty }

/-- The expected speed times 1000 of a period whose lowest duty was `d` (R138). -/
def expectedMilli (f : Fan) (d : Nat) : Nat := ratedRpm f * d

/-- The expected speed in whole rpm, as reported (log entry 16). -/
def expectedRpm (f : Fan) (d : Nat) : Nat := (roundDiv (expectedMilli f d) 1000).toNat

/-- Step 5 of R130 for one fan: the ended period's tach (R138), with the lowest duty `d` of that period. A measured rpm
above the field's 65,535 is held at 65,535 (DESIGN CHOICE, log entry 16). -/
def fanJudge (f : Fan) (d : Nat) (s : State) : State :=
  let r := s.fanRec f
  let rpm := min 65535 (30 * r.pulses)
  let judged : Bool := r.state = .running ∧ r.wholePeriod
  let low : Bool := 2000 * rpm < expectedMilli f d
  let count := if judged then (if low then satSucc 3 r.lowCount else 0) else r.lowCount
  let latch : Bool := judged && count = 3 && !r.fanFault
  let r' := { r with
    rpm := rpm, lowCount := count, fanFault := r.fanFault || latch, pulses := 0, dutyMin := r.applied
    wholePeriod := r.state = .running, expected := if judged then expectedRpm f d else r.expected }
  let s' := s.setFan f r'
  if latch then produce (.fault (.fan f rpm (expectedRpm f d))) s' else s'

/-- One fan at the expiry of the control-period timer (R130). -/
def fanPeriod (f : Fan) (s : State) : State := fanJudge f (s.fanRec f).dutyMin (fanSteer f s)

/-- What R141 reports of the expiry: the curve set, the light demand and the regime used. -/
def notePeriod (s : State) : State :=
  { s with fan := { s.fan with
      usedCurves := s.geo.orientation, usedLight := lightDemandUsed s, usedRegime := s.ths.regime } }

/-! ### Starts and the events of R136 -/

/-- A STOPPED fan with no request queued submits its start request (R129). -/
def fanSubmit (f : Fan) (s : State) : State :=
  let r := s.fanRec f
  if r.state = .stopped ∧ r.requestQueued = false then
    { s with rlm := s.rlm.submit s.now (.fan f) .fan (ratedCurrent f) false }.setFan f { r with requestQueued := true }
  else s

/-- Every STOPPED fan with no request queued submits (R129), FAN0 first: R183 step 5 states that order for start-up, and
the model takes it after RAIL_LOW (R62) and a soft reset too (log entry 48). -/
def fansSubmit (s : State) : State := fanSubmit .fan2 (fanSubmit .fan1 (fanSubmit .fan0 s))

/-- A fan's grant: SPINUP, with the spin-up timer from 2 s (R129). -/
def fanGranted (f : Fan) (s : State) : State :=
  s.setFan f { s.fanRec f with
    state := .spinup, spinTimer := some (s.now + 2000), requestQueued := false, wholePeriod := false }

/-- The end of a spin-up: RUNNING, with its duty reported (R129, R63). -/
def spinupEnds (f : Fan) (s : State) : State :=
  let r := s.fanRec f
  let s' := s.setFan f { r with state := .running, spinTimer := none }
  lowerEntry (.fan f) (fanEntry f r.applied) s'

/-- The new cap and CAPPED of one fan, and its duty lowered to the cap (R136). -/
def reformCap (f : Fan) (s : State) : State :=
  let r := s.fanRec f
  let cap := capNow s f
  let duty :=
    match cap with
    | some c => min r.applied c
    | none => r.applied
  let s' := s.setFan f { r with
    cap := cap, capped := isCapped cap r.demand, applied := duty, dutyMin := min r.dutyMin duty
    cappedDuty := if regimeClosed s.ths.regime then 1000 else r.cappedDuty }
  if r.state = .running then lowerEntry (.fan f) (fanEntry f duty) s' else s'

/-- The new cap and CAPPED of every fan (R136). -/
def reformCaps (s : State) : State := reformCap .fan2 (reformCap .fan1 (reformCap .fan0 s))

end Sys2Proof.Machine
end

