-- ==== Sys2Proof/Machine/Examine.lean ====
section
/-! DEFINITION. The examination of the start queue (R54), the grant (R55) with what it makes each requester do (R9,
R41, R129), and the fan-first shedding (R58). -/

namespace Sys2Proof.Machine
open Sys2Proof

/-- The need a requester states now (R52): by R8 for an axis, the HIT setting for the brake, the rated current for a
fan. -/
def needNow (s : State) : Consumer → Nat × Bool
  | .axis a => axisNeed s a
  | .brake => (s.brk.settings.hit, false)
  | .fan f => (ratedCurrent f, false)

/-- A request with the need its requester states now. -/
def restateReq (s : State) (q : StartReq) : StartReq :=
  { q with need := (needNow s q.requester).1, partnerHold := (needNow s q.requester).2 }

/-- Every request restated (R8, R51, R52): RLM uses the need stated when it examines the head. -/
def restateAll (s : State) : State := { s with rlm := { s.rlm with queue := s.rlm.queue.map (restateReq s) } }

/-- The entries after a grant (R55). -/
def raiseEntries (s : State) (h : StartReq) (r : Rlm) : Rlm :=
  match h.requester with
  | .axis a =>
    let r1 := r.setEntry (.axis a) (2 * (s.axis a).settings.run)
    match partnerOf a with
    | some p => if h.partnerHold then r1.setEntry (.axis p) (2 * (s.axis p).settings.hold) else r1
    | none => r1
  | .brake => r.setEntry .brake s.brk.settings.hit
  | .fan f => r.setEntry (.fan f) (ratedCurrent f)

/-- RLM's part of a grant: the head leaves the queue, the moment enters the history and the entries rise (R55). -/
def rlmGrant (h : StartReq) (s : State) : State :=
  let r := raiseEntries s h (s.rlm.withdraw h.requester)
  { s with rlm := { r with grants := (s.now :: r.grants).take 4 } }

/-- The partner energised at HOLD with the requester's grant (R9). -/
def energisePartner (p : Axis) (s : State) : State :=
  let s' := driveHold p s
  if (s.axis p).state = .parked then s'.setAxis p { s'.axis p with state := .holding } else s'

/-- A granted axis (R9). A start from SETTLING beside a partner that is off has no partner hold: the axis waits in WAIT_START
and its release is not submitted while that pair is off (R43), until the partner's own grant (DEDUCED, log entry 52). -/
def axisGranted (a : Axis) (ph : Bool) (s : State) : State :=
  match partnerOf a with
  | none => beginMotion a s
  | some p =>
    let s1 := if ph then energisePartner p s else s
    let r := s1.axis a
    let s2 := s1.setAxis a { r with target := r.pendingTarget.getD r.target }
    if s2.brk.state = .released then beginMotion a s2
    else brakeRelease (driveHold a (s2.setAxis a { s2.axis a with granted := true }))

/-- A granted brake release (R41), taken only while both shift pairs are driven (R43). -/
def brakeGranted (s : State) : State :=
  if shiftDriven s then
    let s' := driveChan .ch8 (some s.brk.settings.hit) s
    { s' with brk := { s'.brk with
        state := .releasing, releaseQueued := false, hitReached := false, dipSeen := false
        timer := some (s'.now + s'.brk.settings.hitTime) } }
  else lowerEntry .brake 0 { s with brk := { s.brk with releaseQueued := false } }

/-- A grant taken by its requester (R55). -/
def granted (h : StartReq) (s : State) : State :=
  match h.requester with
  | .axis a => axisGranted a h.partnerHold s
  | .brake => brakeGranted s
  | .fan f => fanGranted f s

/-- A HOLDING ZOM or FOC is shed (R58). -/
def shedAxis (a : Axis) (s : State) : State := if (s.axis a).state = .holding then parkAxis a s else s

/-- The rail shed for a FAN head (R58). -/
def shed (s : State) : State := shedAxis .foc (shedAxis .zom s)

/-- Whether shedding would park an axis. -/
def canShed (s : State) : Bool := s.axc.zom.state = .holding || s.axc.foc.state = .holding

/-- One examination (R54): the head is granted, or the rail is shed for a FAN head that does not fit. The answer says
whether the event starts another examination. -/
def examineOnce (s0 : State) : State × Bool :=
  let s := restateAll s0
  match headOf s.rlm.queue with
  | none => (s, false)
  | some h =>
    if grantable s h then (granted h (rlmGrant h s), true)
    else if h.cls = .fan && !fits s.rlm h.need && canShed s then (shed s, true)
    else (s, false)

/-- Examinations, at most `k` of them: each grant and each shedding starts another (R54, R58). -/
def examineK : Nat → State → State
  | 0, s => s
  | k + 1, s =>
    match examineOnce s with
    | (s', true) => examineK k s'
    | (s', false) => s'

/-- The examination an event starts. After a grant the spacing holds the next one (R56), and after a shedding no ZOM
or FOC is left HOLDING, so four examinations reach the end. -/
def examine (s : State) : State := examineK 4 s

/-- Every consumer of the rail (R47). -/
def allConsumers : List Consumer :=
  [.axis .hsh, .axis .vsh, .axis .zom, .axis .foc, .brake, .fan .fan0, .fan .fan1, .fan .fan2]

/-- An entry of the table was lowered (R54). -/
def someLowered (old new : Rlm) : Bool := allConsumers.any fun c => new.entry c < old.entry c

/-- A RUNNING fan reported a lower duty than the one it had (R63, R136), also where its entry stays equal because R47
rounds up (FAN1 from 500 to 499, entry 150). -/
def dutyLowered (old new : State) : Bool :=
  allFans.any fun f => (old.fanRec f).state = .running && (new.fanRec f).applied < (old.fanRec f).applied

/-- A change of the rail's record that R54 lists: a request submitted, restated or withdrawn, an entry lowered, or the
budget changed. A fan's duty increase raises an entry and is none (R63). -/
def railChanged (old new : Rlm) : Bool :=
  new.queue ≠ old.queue || new.nextArrival ≠ old.nextArrival || new.budget ≠ old.budget || someLowered old new

/-- An examination event: a change that R54 lists, or a fan's duty decrease (R63, R136). -/
def examines (old new : State) : Bool := railChanged old.rlm (restateAll new).rlm || dutyLowered old new

/-- The examination an event starts when it is one of R54's. Where the same event turns the last driven channel off with
a calibration run due, the examination comes first: R36 lets the grant or the window be first, and the window opens by
its own command (log entry 55). -/
def examineAfter (old new : State) : State := if examines old new then examine new else new

/-- A move asked of an axis that waits in the start queue: AXC submits its start again, which R52 calls a restatement
when the class is unchanged. -/
def resubmits (a : Axis) (s : State) : Bool :=
  (s.axis a).state = .waitStart && (s.rlm.request (.axis a)).isSome

/-- The examination after a move taken by `a` (R52, R54): a new submission starts one even where it restates the
request with the need it had. -/
def examineMove (a : Axis) (old new : State) : State := if resubmits a old then examine new else examineAfter old new

end Sys2Proof.Machine
end

