-- ==== Sys2Proof/Machine/Sensor.lean ====
section
/-! DEFINITION. The sensor scanner (chapter 7): judging, converting and smoothing of samples, the published set and the
orientation record; and DRV's reading of the die temperature (R33). -/

namespace Sys2Proof.Machine
open Sys2Proof

/-! ### Judging and converting (R117, R118, R122, R126) -/

/-- The judgment of a code on an external channel (R117). -/
def judgeCode (c : Nat) : SensorFlag := if c ≤ 40 then .short else if c ≤ 4054 then .ok else .opened

/-- A thermistor code converted (R118). -/
def thermoSample (ct : List Int) (c : Nat) : Int :=
  let k := c / 256
  roundDiv (256 * tableAt ct k + (tableAt ct (k + 1) - tableAt ct k) * ((c : Int) - 256 * k)) 256

/-- The pitch magnitude of an offset's size (R122 step 2). -/
def pitchMagnitude (m : Nat) : Int :=
  let j := m / 128
  if j = 8 then tableAt pitchTable 8
  else roundDiv (128 * tableAt pitchTable j + (tableAt pitchTable (j + 1) - tableAt pitchTable j) * ((m : Int) - 128 * j)) 128

/-- A TLX code converted to a pitch sample (R122). -/
def pitchSample (tiltZero : Int) (c : Nat) : Int :=
  let o := clampInt (-1024) 1024 ((c : Int) - 2048 - tiltZero)
  if 0 ≤ o then pitchMagnitude o.natAbs else -(pitchMagnitude o.natAbs)

/-- A DIE code converted (R126). -/
def dieSample (c : Nat) : Int := roundDiv (((c : Int) - 1024) * 10) 8

/-- A RAIL code converted to millivolts (R126). -/
def railSample (c : Nat) : Int := 4 * c

/-! ### Entering a sample (R119) -/

/-- A good sample entered in its channel's delay line (R119). -/
def enterSample (r : SensorRec) (c : Nat) (x : Int) : SensorRec :=
  let line := if r.filled then r.line.drop 1 ++ [x] else List.replicate 8 x
  { code := c, flag := .ok, filled := true, line := line, smoothed := some (roundDiv (sumInt line) 8) }

/-- A conversion on an external channel (R117, R119): a faulted sample enters nothing. -/
def takeExternal (conv : Nat → Int) (r : SensorRec) (c : Code12) : SensorRec :=
  match judgeCode c.toNat with
  | .ok => enterSample r c.toNat (conv c.toNat)
  | .short => { r with code := c.toNat, flag := .short }
  | .opened => { r with code := c.toNat, flag := .opened }

/-- A conversion on an internal channel: every code is good (R117). -/
def takeInternal (conv : Nat → Int) (r : SensorRec) (c : Code12) : SensorRec := enterSample r c.toNat (conv c.toNat)

/-- The ten channel records after a scan (R115). -/
def takeCodes (ct : List Int) (zero : Int) (rs : PerSensor SensorRec) (cs : PerSensor Code12) : PerSensor SensorRec where
  thermo := rs.thermo.zipWith (takeExternal (thermoSample ct)) cs.thermo
  tlx := takeExternal (pitchSample zero) rs.tlx cs.tlx
  tlz := takeExternal (fun c => (c : Int)) rs.tlz cs.tlz
  die := takeInternal dieSample rs.die cs.die
  rail := takeInternal railSample rs.rail cs.rail

/-- A delay line emptied (R121, R123): the flag and the last code stay. -/
def emptyLine (r : SensorRec) : SensorRec := { r with filled := false, line := [], smoothed := none }

/-! ### The published set (R120, R123) -/

/-- The pitch with the sign of the effective orientation (R123). -/
def signedPitch (o : Orientation) (p : Int) : Int :=
  match o with
  | .floor => p
  | .ceiling => -p

/-- What a channel publishes (R120). -/
def pubOf (r : SensorRec) : Pub := ⟨r.flag, r.smoothed⟩

/-- The set published at the end of a scan (R120, R123). -/
def publishSet (rs : PerSensor SensorRec) (o : Orientation) : PubSet :=
  ⟨rs.map pubOf, rs.tlx.smoothed.map (signedPitch o)⟩

/-- The external channels, A0 to A7. -/
def externals (t : PerSensor SensorRec) : List SensorRec := t.thermo.toList ++ [t.tlx, t.tlz]

/-- The FAULT notices of the flags that changed (R117), A0 to A7 (DESIGN CHOICE, log entry 48). -/
def flagNotices : Nat → List SensorRec → List SensorRec → State → State
  | i, old :: olds, new :: news, s =>
    flagNotices (i + 1) olds news (if old.flag = new.flag then s else produce (.fault (.sensor i new.flag)) s)
  | _, _, _, s => s

/-- The scan of SSC itself: every channel converted, judged and entered, and the set published (R115). -/
def scanSet (codes : PerSensor Code12) (s : State) : State :=
  let rs := takeCodes s.ssc.conversion s.ssc.tiltZero s.ssc.chans codes
  let s' := { s with ssc := { s.ssc with
    chans := rs, published := some (publishSet rs s.ssc.effective), scans := satSucc 65535 s.ssc.scans
    nextScan := s.ssc.nextScan + 100 } }
  flagNotices 0 (externals s.ssc.chans) (externals rs) s'

/-! ### Orientation (R124, R125) -/

/-- The condition of a scan: z below 1,648, above 2,448, or neither (R124). -/
def zCondition (r : SensorRec) : Option Orientation :=
  if r.flag ≠ .ok then none
  else
    match r.smoothed with
    | none => none
    | some z => if z < 1648 then some .ceiling else if 2448 < z then some .floor else none

/-- A hold raised by one scan of its run, or restarted (R124). -/
def nextHold (cond run : Option Orientation) (o : Orientation) (hold : Nat) : Nat :=
  if cond = some o then (if run = some o then min 3000 (hold + 100) else 0) else 0

/-- A change of the effective orientation that comes together with a scan (R123): taken first, the set of that scan
carries the new sign; taken second, the old one. The draw picks. -/
def signAgain (s : State) : State :=
  let pitch := s.ssc.chans.tlx.smoothed.map (signedPitch s.ssc.effective)
  let s' := { s with draw := s.draw / 2 }
  if s.draw % 2 = 0 then s'
  else { s' with ssc := { s'.ssc with published := s'.ssc.published.map fun p => { p with pitch := pitch } } }

/-- The holds and the decision of a scan, with the change of the detected orientation (R124, R125). -/
def orient (s : State) : State :=
  let cond := zCondition s.ssc.chans.tlz
  let c := nextHold cond s.ssc.run .ceiling s.ssc.ceilHold
  let f := nextHold cond s.ssc.run .floor s.ssc.floorHold
  let decision : Option Orientation := if c = 3000 then some .ceiling else if f = 3000 then some .floor else none
  let s1 := { s with ssc := { s.ssc with
    ceilHold := c, floorHold := f, run := cond
    decided := s.ssc.decided || decision.isSome, detected := decision.getD s.ssc.detected } }
  if s1.ssc.detected = s.ssc.detected then s1
  else signAgain (formOrientation (produce (.orientation s1.ssc.detected (s.ssc.chans.tlz.smoothed.getD 0)) s1))

/-! ### DRIVER_HOT (R33) -/

/-- The published die temperature, when there is one. -/
def publishedDie (s : State) : Option Int :=
  match s.ssc.published with
  | none => none
  | some p => p.chans.die.value

/-- DRV takes the published die temperature (R33). The FAULT notice is queued before those of the moves that end (DESIGN
CHOICE, log entry 59). -/
def driverHotScan (s : State) : State :=
  match publishedDie s with
  | none => s
  | some t =>
    if s.drv.driverHot then
      (if t < 1200 then produce (.fault (.driverHot false)) { s with drv := { s.drv with driverHot := false } } else s)
    else if 1400 ≤ t then
      blockFault .driverHot .fault (produce (.fault (.driverHot true)) { s with drv := { s.drv with driverHot := true } })
    else s

end Sys2Proof.Machine
end

