-- ==== Sys2Proof/Machine/Thermal.lean ====
section
/-! DEFINITION. The thermal supervisor (chapter 9): used temperatures, the raw level, the regime, the holds, shutdown,
the light-source limit, and the publication of a new regime. -/

namespace Sys2Proof.Machine
open Sys2Proof

/-! ### Used temperatures and the raw level (R143, R144) -/

/-- The used temperature of one sensor (R143). -/
def usedOf (p : Pub) (l : Limit) : Used :=
  match p.flag, p.value with
  | .ok, some t => ⟨t, false⟩
  | _, _ => ⟨l.high, true⟩

/-- The six used temperatures of a published set (R143). -/
def formUsed (p : PubSet) (limits : PerThermo Limit) : PerThermo Used := p.chans.thermo.zipWith usedOf limits

/-- Some sensor meets a condition. -/
def someSensor (u : PerThermo Used) (l : PerThermo Limit) (p : Used → Limit → Bool) : Bool :=
  (u.zipWith p l).toList.any id

/-- The level whose condition is the highest that holds (R144). -/
def rawLevel (u : PerThermo Used) (l : PerThermo Limit) (ff : PerFan Bool) : Regime :=
  if someSensor u l (fun x y => y.crit ≤ x.temp) || ff.fan0 then .emergency
  else if someSensor u l (fun x y => y.high ≤ x.temp) || ff.fan1 || ff.fan2 || u.toList.any (fun x => x.faulted) then
    .override
  else if someSensor u l (fun x y => y.warn ≤ x.temp) then .limited
  else .quiet

/-! ### The regime (R145) -/

/-- The rank of a regime, lowest first. -/
def regimeRank : Regime → Nat := regimeCode

/-- Whether the condition for leaving a level holds (R145). -/
def mayLeave (u : PerThermo Used) (l : PerThermo Limit) (hyst : Int) (ff : PerFan Bool) : Regime → Bool
  | .emergency => !someSensor u l (fun x y => y.crit - hyst ≤ x.temp) && !ff.fan0
  | .override =>
    !someSensor u l (fun x y => y.high - hyst ≤ x.temp) && !ff.fan1 && !ff.fan2 && !u.toList.any (fun x => x.faulted)
  | .limited => !someSensor u l (fun x y => y.warn - hyst ≤ x.temp)
  | .quiet => false
  | .shutdown => false

/-- The level below. -/
def levelBelow : Regime → Regime
  | .quiet => .quiet
  | .limited => .quiet
  | .override => .limited
  | .emergency => .override
  | .shutdown => .shutdown

/-- Up to `k` steps down toward the raw level (R145). -/
def stepDown (leave : Regime → Bool) (raw : Regime) : Nat → Regime → Regime
  | 0, r => r
  | k + 1, r => if regimeRank raw < regimeRank r ∧ leave r then stepDown leave raw k (levelBelow r) else r

/-- The regime a scan moves to, before the holds (R145). -/
def nextRegime (leave : Regime → Bool) (raw regime : Regime) : Regime :=
  if regime = .shutdown then .shutdown
  else if regimeRank regime < regimeRank raw then raw
  else stepDown leave raw 3 regime

/-! ### The holds (R147) -/

/-- Whether a sensor stands at or above its CRIT. -/
def atCrit (u : Used) (l : Limit) : Bool := l.crit ≤ u.temp

/-- A CRIT hold after a scan in EMERGENCY (R147). -/
def nextCritHold (run now : Bool) (hold : Nat) : Nat :=
  if now then (if run then min 10000 (hold + 100) else 0) else 0

/-- The regime `r` set and the holds updated, without SHUTDOWN (R147). -/
def holdsAfter (t : Ths) (r : Regime) (u : PerThermo Used) : Ths :=
  if r = .emergency then
    let now := u.zipWith atCrit t.limits
    let runs := t.critRun.zipWith (fun a b => (a, b)) now
    { t with
      regime := r, critRun := now
      critHold := runs.zipWith (fun ab h => nextCritHold ab.1 ab.2 h) t.critHold
      emergencyHold := if t.regime = .emergency then min 60000 (t.emergencyHold + 100) else 0 }
  else { t with regime := r, critRun := PerThermo.all false, critHold := PerThermo.all 0, emergencyHold := 0 }

/-- Whether the holds lead to SHUTDOWN (R147). -/
def shutdownDue (t : Ths) : Bool := t.critHold.toList.any (fun h => h = 10000) || t.emergencyHold = 60000

/-- The entry to SHUTDOWN in THS's own record (R147, R148); L follows when it is formed. -/
def toShutdown (t : Ths) : Ths :=
  { t with
    regime := .shutdown, causeCrit := t.critHold.map (fun h => h = 10000), causeEmergency := t.emergencyHold = 60000
    lsen := false, lightEnable := false, critHold := PerThermo.all 0, critRun := PerThermo.all false
    emergencyHold := 0 }

/-! ### The light-source limit (R150, R151) -/

/-- The greatest excess over WARN, at least 0 (R150). -/
def excessOf (t : Ths) : Nat :=
  match t.used with
  | none => 0
  | some u => ((u.zipWith (fun (x : Used) (l : Limit) => x.temp - l.warn) t.limits).toList.foldl max 0).toNat

/-- 1000 − 4 × excess (R150); the manual states no value below 0. -/
def dimmed (excess : Nat) : Nat := if 4 * excess ≤ 1000 then 1000 - 4 * excess else min 1000 (Config.limitUnderrun excess)

/-- L of a regime, a cap priority and an excess (R150). -/
def limitOf (r : Regime) (p : CapPriority) (excess : Nat) : Nat :=
  match r, p with
  | .quiet, _ => 1000
  | .limited, .quietFirst => dimmed excess
  | .limited, .coolFirst => 1000
  | .override, _ => dimmed excess
  | .emergency, _ => 200
  | .shutdown, _ => 0

/-- The distance of two limits. -/
def apart (a b : Nat) : Nat := if a ≤ b then b - a else a - b

/-- L formed, and notified when it differs from the last notified by 50 or more (R150, R151). -/
def formLimit (s : State) : State :=
  let e := excessOf s.ths
  let l := limitOf s.ths.regime s.ths.priority e
  let s1 := { s with ths := { s.ths with excess := e, limit := l } }
  if 50 ≤ apart l s.ths.notified then
    produce (.lightLimit l s.ths.regime s.ths.priority e) { s1 with ths := { s1.ths with notified := l } }
  else s1

/-! ### Publication (R145, R146) -/

/-- The REGIME notice of a change (R145). -/
def regimeNotice (old : Regime) (t : Ths) : Notice :=
  .regime old t.regime t.raw (t.used.getD (PerThermo.all ⟨0, false⟩)) t.fanFaults

/-- A new regime taken by AXC, with RLM's withdrawals (R24, R61). -/
def regimeTaken (s : State) : State := if regimeClosed s.ths.regime then regimeAxes s else s

/-- A new regime acted on by THS itself, AXC with RLM, and FAN, in an order that is not fixed (R136, R146, R150). -/
def publishRegime (s : State) : State := inSomeOrder [formLimit, regimeTaken, reformCaps] s

/-- The three FAN_FAULT latches as they stand. -/
def fanLatches (s : State) : PerFan Bool :=
  ⟨s.fan.recs.fan0.fanFault, s.fan.recs.fan1.fanFault, s.fan.recs.fan2.fanFault⟩

/-- THS's own record after it takes a published set (R143 to R147). -/
def thsTake (p : PubSet) (ff : PerFan Bool) (t : Ths) : Ths :=
  let u := formUsed p t.limits
  let raw := rawLevel u t.limits ff
  let t1 := { t with used := some u, raw := raw, fanFaults := ff }
  let t2 := holdsAfter t1 (nextRegime (mayLeave u t.limits t.hyst ff) raw t.regime) u
  if shutdownDue t2 then toShutdown t2 else t2

/-- THS at the end of a scan: the regime, its notice, L, and the publication of a change (R145 to R151). -/
def thermalScan (s : State) : State :=
  match s.ssc.published with
  | none => s
  | some p =>
    let s1 := { s with ths := thsTake p (fanLatches s) s.ths }
    if s1.ths.regime = s.ths.regime then formLimit s1
    else publishRegime (produce (regimeNotice s.ths.regime s1.ths) s1)

/-- QUIET_SET's values taken, by whatever road (R153): the caps, the duties above them, and L. -/
def setQuiet (q : QuietLevel) (p : CapPriority) (s : State) : State :=
  formLimit (reformCaps { s with ths := { s.ths with quiet := q, priority := p } })

/-- A limit table taken, by whatever road (R154). -/
def setLimits (l : PerThermo Limit) (h : Int) (s : State) : State :=
  formLimit { s with ths := { s.ths with limits := l, hyst := h } }

end Sys2Proof.Machine
end

