-- ==== Sys2Proof/Machine/Store.lean ====
section
/-! DEFINITION. Stored settings (chapter 12) and the tables of R177: capture, loads, the actions of each block on new
values, the store writes, and the resets with start-up's first steps (R183, R185). -/

namespace Sys2Proof.Machine
open Sys2Proof

/-! ### Capture (R180, R181) -/

/-- The settings as they stand in the live blocks. -/
def liveSettings (s : State) : Settings where
  axes := ⟨s.axc.hsh.settings, s.axc.vsh.settings, s.axc.zom.settings, s.axc.foc.settings⟩
  brake := s.brk.settings
  budget := s.rlm.budget
  conversion := s.ssc.conversion
  tiltZero := s.ssc.tiltZero
  tilt := s.geo.tilt
  zoomFactor := s.geo.zoomFactor
  focusComp := s.fcp.comp
  focusZoom := s.fcp.zoom
  curves := s.fan.curves
  lightFF := s.fan.lightFF
  limits := s.ths.limits
  hyst := s.ths.hyst
  quiet := s.ths.quiet
  priority := s.ths.priority
  compEnabled := s.fcp.enabled
  deadband := s.fcp.deadband

/-- The settings, geometry, access and start-up parts as they stand (R181). -/
def captureParts (s : State) : SavedParts where
  settings := liveSettings s
  geometry := s.geo.live
  access := ⟨s.lnk.permit, s.lnk.alertMask, s.lnk.main.mask, s.lnk.service.mask⟩
  powerOnSlot := s.sto.powerOnSlot
  autoHome := s.sto.autoHome

/-! ### The actions of blocks on new values -/

/-- An axis with new settings; a referenced position outside the new limits loses its reference (R3). -/
def setAxisSettings (a : Axis) (st : AxisSettings) (s : State) : State :=
  let r := s.axis a
  let s' := s.setAxis a { r with settings := st }
  if r.referenced ∧ (r.position < st.travelMin ∨ st.travelMax < r.position) then unreference a s' else s'

/-- A conversion table taken: the six thermistor lines are emptied (R121). -/
def setConversion (ct : List Int) (s : State) : State :=
  { s with ssc := { s.ssc with
    conversion := ct, chans := { s.ssc.chans with thermo := s.ssc.chans.thermo.map emptyLine } } }

/-- TILT_ZERO taken: the TLX line is emptied, and no pitch is published until it is refilled (R123). -/
def setTiltZero (z : Int) (s : State) : State :=
  { s with ssc := { s.ssc with
    tiltZero := z, chans := { s.ssc.chans with tlx := emptyLine s.ssc.chans.tlx }
    published := s.ssc.published.map fun p => { p with pitch := none } } }

/-- A tilt table taken: refresh due (R84, R96). -/
def setTilt (t : List Int) (s : State) : State := { s with geo := { s.geo with tilt := t, refreshDue := true } }

/-- A zoom-factor table taken: refresh due (R84, R96). -/
def setZoomFactor (t : List Int) (s : State) : State :=
  { s with geo := { s.geo with zoomFactor := t, refreshDue := true } }

/-- A compensation table taken: offset_now formed again (R157). -/
def setFocusComp (t : List Int) (s : State) : State := formOffset { s with fcp := { s.fcp with comp := t } }

/-- A focus-zoom table taken: offset_now formed again (R157). -/
def setFocusZoom (t : List Int) (s : State) : State := formOffset { s with fcp := { s.fcp with zoom := t } }

/-- Brake settings taken (R39). A waiting BRAKE request is restated at the next examination (R52). -/
def setBrake (b : BrakeSettings) (s : State) : State := { s with brk := { s.brk with settings := b } }

/-- The brake settings of four entries, HOLD clamped to HIT (R39, R177). The entries are those of `acceptedEntries`. -/
def brakeOf (t : List Int) : BrakeSettings :=
  let hit := (tableAt t 0).toNat
  ⟨hit, min (tableAt t 1).toNat hit, (tableAt t 2).toNat, (tableAt t 3).toNat⟩

/-- A table taken by its owner (R177). -/
def setTable (id : TableId) (t : List Int) (s : State) : State :=
  match id with
  | .conversion => setConversion t s
  | .tiltZero => setTiltZero (tableAt t 0) s
  | .tilt => setTilt t s
  | .zoomFactor => setZoomFactor t s
  | .focusComp => setFocusComp t s
  | .focusZoom => setFocusZoom t s
  | .brake => setBrake (brakeOf t) s

/-- The present entries of a table (R177). -/
def tableEntries (s : State) : TableId → List Int
  | .conversion => s.ssc.conversion
  | .tiltZero => [s.ssc.tiltZero]
  | .tilt => s.geo.tilt
  | .zoomFactor => s.geo.zoomFactor
  | .focusComp => s.fcp.comp
  | .focusZoom => s.fcp.zoom
  | .brake =>
    [(s.brk.settings.hit : Int), (s.brk.settings.hold : Int), (s.brk.settings.hitTime : Int),
     (s.brk.settings.engageTime : Int)]

/-- The entries of TABLE_SET clamped into their ranges, from index `i` (R177). -/
def clampEntries (id : TableId) : Nat → List Int → List Int
  | _, [] => []
  | i, z :: zs => clampInt (tableRange id i).1 (tableRange id i).2 z :: clampEntries id (i + 1) zs

/-- The table TABLE_SET stores (R177): in BRAKE, HOLD is clamped to HIT too. A HOLD is compared with the HIT as already
clamped, which R177 does not say of a HIT that is itself out of range (DESIGN CHOICE, log entry 67). -/
def acceptedEntries (id : TableId) (t : List Int) : List Int :=
  let c := clampEntries id 0 t
  match id, c with
  | .brake, hit :: hold :: rest => hit :: min hold hit :: rest
  | .brake, l => l
  | .conversion, l => l
  | .tiltZero, l => l
  | .tilt, l => l
  | .zoomFactor, l => l
  | .focusComp, l => l
  | .focusZoom, l => l

/-! ### SETTINGS_DEFAULT (R182) -/

/-- The operator fields of an axis's settings at their defaults (R182). -/
def operatorDefaults (a : Axis) (st : AxisSettings) : AxisSettings :=
  let d := defaultAxis a
  { st with approach := d.approach, takeup := d.takeup, idle := d.idle, settle := d.settle }

/-- The axis settings SETTINGS_DEFAULT loads (R182). -/
def defaultFor (service : Bool) (a : Axis) (s : State) : AxisSettings :=
  if service then defaultAxis a else operatorDefaults a (s.axis a).settings

/-- The factory geometry loaded into the live record (R83, R84). -/
def defaultGeometry (s : State) : State :=
  let g := formQuad { s.geo with live := defaultLive, refreshDue := true }
  handIfChanged (formOrientation { s with geo := g })

/-- The operator settings at their defaults (R182): the axes', the geometry with its handover, compensation and the masks,
and last the quiet level and the priority, by which the caps and L are formed (DESIGN CHOICE, log entry 63). -/
def loadOperator (service : Bool) (s : State) : State :=
  let s1 := allAxes.foldl (fun t a => setAxisSettings a (defaultFor service a t) t) s
  let s2 := defaultGeometry s1
  let s3 := { s2 with
    fcp := { s2.fcp with enabled := true }
    lnk := { s2.lnk with
      alertMask := defaultAlertMask
      main := { s2.lnk.main with mask := defaultNoticeMask }
      service := { s2.lnk.service with mask := defaultNoticeMask } } }
  setQuiet .standard .quietFirst s3

/-- The protected settings at their defaults (R182, R50). offset_now is not formed again here: R157 does so at the end
of a scan and for TABLE_SET alone (log entry 25). L is formed on the default limits here, under the priority and the
notice masks that stand, and once more by `loadOperator` (DESIGN CHOICE, log entry 63). -/
def loadProtected (s : State) : State :=
  let s1 := setLimits defaultLimits defaultHyst
    { s with
      brk := { s.brk with settings := defaultBrake }
      rlm := s.rlm.loadBudget defaultBudget
      fan := { s.fan with curves := defaultCurves, lightFF := defaultLightFF }
      lnk := { s.lnk with permit := defaultPermit } }
  let s2 := setZoomFactor defaultZoomFactor (setTilt defaultTilt (setTiltZero 0 (setConversion defaultConversion s1)))
  { s2 with fcp := { s2.fcp with comp := defaultFocusComp, zoom := defaultFocusZoom, deadband := 8 } }

/-! ### The image (R180) -/

/-- The parts a read of the image gives: factory defaults when the check fails. -/
def readParts (i : Image) : SavedParts := if i.good then i.parts else defaultParts

/-- The presets a read of the image gives. -/
def readPresets (i : Image) : List Preset := if i.good then i.presets else emptyPresets

/-- The image after a write of one preset slot (R68, R180): the whole image, closed by its check. -/
def imageAfterPreset (s : State) (presets : List Preset) : Image :=
  let parts :=
    if s.sto.image.good then s.sto.image.parts
    else if Config.rewriteFromLive s.now then captureParts s
    else defaultParts
  sealImage parts presets

/-- The end of a preset write (R68). -/
def presetWritten (slot : Nat) (x : Preset) (s : State) : State :=
  let presets := s.lmm.presets.set slot x
  { s with
    lmm := { s.lmm with presets := presets }
    sto := { s.sto with image := imageAfterPreset s presets, write := none } }

/-- The end of a SETTINGS_SAVE write (R181). -/
def saveWritten (parts : SavedParts) (s : State) : State :=
  { s with sto := { s.sto with image := sealImage parts s.lmm.presets, write := none } }

/-! ### Resets (R183, R185) -/

/-- A live record as loaded: one that fails the acceptance test is restored to the full panel (R83). The answer says
whether it was. -/
def restoreLive (l : LiveGeom) : LiveGeom × Bool :=
  match judgeQuad (quadOf l.geom) with
  | none => (l, false)
  | some _ => ({ l with geom := ⟨noOffsets, .manual, 0⟩ }, true)

/-- GEO as a reset leaves it, from the loaded record (R83, R84). -/
def loadedGeo (p : SavedParts) (detected : Orientation) : Geo :=
  let l := restoreLive p.geometry
  let q := quadOf l.1.geom
  geoAtReset l.1 q (permilleOf q).toNat (orientationOf l.1.mount detected) l.2 p.settings.tilt p.settings.zoomFactor

/-- Every block's record after power-on or pin reset, from the stored image (R183 steps 1 to 3). -/
def powerRecords (kind : ResetKind) (image : Image) (s : State) : State :=
  let p := readParts image
  let st := p.settings
  let geo := loadedGeo p .floor
  { now := 0
    axc := axesAtReset st.axes
    drv := drvAtReset 0 (PerChan.all 0)
    brk := brkAtReset st.brake
    rlm := rlmAtReset st.budget
    lmm := lmmAtReset (readPresets image)
    geo := geo
    wrp := { wrpAtReset with overflow := trialOverflow (quadOf p.geometry.geom) }
    ssc := sscAtReset st.conversion st.tiltZero geo.orientation
    fan := fanBlockAtReset st.curves st.lightFF geo.orientation
    ths := thsAtReset st.limits st.hyst st.quiet st.priority
    fcp := fcpAtReset st.compEnabled st.deadband st.focusComp st.focusZoom
    sto := ⟨image, !image.good, none, p.powerOnSlot, p.autoHome⟩
    lnk := lnkAtReset p.access
    start := ⟨kind, .homing (homeOrder p.autoHome) none, false⟩
    refActive := s.refActive
    draw := s.draw
    pending := s.pending }

/-- Power-on reset, and reset by the reset pin (R183): a write in progress leaves an image whose check fails (R180,
R181); then the window opens, the fans submit and the first warp input is handed (steps 4 to 6). -/
def powerReset (kind : ResetKind) (s : State) : State :=
  let image := if s.sto.write.isSome then spoilImage s.sto.image else s.sto.image
  nextHome (homeOrder (readParts image).autoHome) (handIfChanged (fansSubmit (openWindow (powerRecords kind image s))))

/-- A port after a soft reset (R165, R185): a frame begun on the transmitter runs to its end (DEDUCED, log entry 68), the
one that the end of RESET's own reply let begin among them (DESIGN CHOICE, log entry 68). -/
def softPort (mask : Byte) (r : PortRec) : PortRec := { portAtReset mask with transmitter := r.transmitter }

/-- A fan record after a soft reset (R128). -/
def softFan (r : FanRec) : FanRec := { r with lowCount := 0, fanFault := false, requestQueued := false }

/-- Each block's record after a soft reset (R185), before caps and L are formed afresh. -/
def softRecords (s : State) : State :=
  let image := s.sto.image
  let p := readParts image
  let st := p.settings
  let geo := loadedGeo p s.ssc.detected
  let kept : Rlm := { s.rlm with axes := PerAxis.all 0, brake := 0, queue := [], grants := [] }
  { s with
    axc := axesAtReset st.axes
    drv := drvAtReset s.now (s.drv.chans.map fun c => c.offset)
    brk := brkAtReset st.brake
    rlm := kept.loadBudget st.budget
    lmm := lmmAtReset (readPresets image)
    geo := geo
    wrp := { wrpAtReset with
      nextSeq := s.wrp.nextSeq, inEffect := s.wrp.inEffect, overflow := trialOverflow (quadOf p.geometry.geom) }
    ssc := { s.ssc with
      chans := s.ssc.chans.map emptyLine, scans := 0, ceilHold := 0, floorHold := 0, run := none
      effective := geo.orientation, conversion := st.conversion, tiltZero := st.tiltZero }
    fan := { s.fan with
      recs := ⟨softFan s.fan.recs.fan0, softFan s.fan.recs.fan1, softFan s.fan.recs.fan2⟩
      curves := st.curves, lightFF := st.lightFF }
    ths := { s.ths with limits := st.limits, hyst := st.hyst }
    fcp := { fcpAtReset st.compEnabled st.deadband st.focusComp st.focusZoom with
      offsetKnown := s.fcp.offsetKnown, offsetNow := s.fcp.offsetNow, lnsUsed := s.fcp.lnsUsed }
    sto := ⟨image, !image.good, none, p.powerOnSlot, p.autoHome⟩
    lnk :=
      { main := softPort p.access.noticeMain s.lnk.main, service := softPort p.access.noticeService s.lnk.service
        permit := p.access.permit, alertMask := p.access.alertMask, linkLatch := false, alert := s.lnk.alert
        arranged := none }
    start := ⟨.soft, .homing (homeOrder p.autoHome) none, false⟩ }

/-- A soft reset (R185), with the quiet level, priority and limits taken as by request (R142) and start-up's steps 4
and 6; a STOPPED fan submits again (R129). The budget is loaded before the duties are lowered to the reloaded caps (R50,
R136; log entry 57). L is formed once, on the reloaded limits and priority together, after the notice queues are emptied
and the masks reloaded, so that its LIGHT_LIMIT notice outlives the reset (DESIGN CHOICE, log entry 63). -/
def softReset (s : State) : State :=
  let st := (readParts s.sto.image).settings
  let s1 := setQuiet st.quiet st.priority (softRecords s)
  nextHome (homeOrder (readParts s.sto.image).autoHome) (examine (handIfChanged (fansSubmit (openWindow s1))))

end Sys2Proof.Machine
end

