-- ==== Sys2Proof/Machine/Replies.lean ====
section
/-! DEFINITION. The contents of replies and notices (R171, R178) and their frames (R166): each function lists the items
of a rule in the rule's order. Sets, and the latches of a channel, are carried as one mask byte each, and an item for which
R171 lists no width has the width that log entry 22 names (DESIGN CHOICE). -/

namespace Sys2Proof.Machine
open Sys2Proof

/-! ### Small groups -/

/-- The corners of a quad, unsigned pixels (R105). -/
def quadD (q : Quad) : List Datum := (quadCoords q).map fun z => .u16 z.toNat

/-- A fixed count saturated to two bytes. -/
def satU16 (n : Nat) : Datum := .u16 (min n 65535)

/-- A time in ms as the whole seconds that have elapsed: the manual does not say what becomes of a fraction of a second
(DESIGN CHOICE, log entry 74). -/
def wholeSeconds (ms : Nat) : Nat := ms / 1000

/-- The shutdown cause (R142): a mask byte of the sensors of CRIT_HOLD and a flag byte of EMERGENCY_HOLD, both 0 for NONE
(DESIGN CHOICE, log entry 22). -/
def causeD (t : Ths) : List Datum := [.u8 (maskOf t.causeCrit.toList), flagD t.causeEmergency]

/-- The granted light demand: the lesser of the demand and L (R152, R155). -/
def grantedLight (t : Ths) : Nat := min t.lightDemand t.limit

/-! ### Axes, presets and history (R4, R69, R81) -/

/-- A move in progress has an origin to report (R4). -/
def originInProgress (r : AxisRec) : Option Nat := if moveInProgress r then some (originCode r.origin) else none

/-- AXIS_CONFIG_GET's items (R4). -/
def axisConfigD (r : AxisRec) : List Datum :=
  axisSettingsD r.settings ++
  [.u8 (axisStateCode r.state), flagD r.referenced, .i32 r.position, .i32 r.target, .u8 (phaseCode r.phase)] ++
  optU8 (r.faultCause.map axisCauseCode) ++ optU8 (originInProgress r)

/-- The depth, one byte, and the discard counter, two (R81; widths: DESIGN CHOICE, log entry 22). -/
def depthD (l : Lmm) : List Datum := [.u8 l.history.length, .u16 l.discards]

/-- The fields of a snapshot (R78). -/
def snapshotD (x : Snapshot) : List Datum :=
  positionsD x.pos ++ [flagD x.focBase] ++ geomD x.geom ++ [.u8 (snapOriginCode x.origin)]

/-! ### Geometry and warp (R113) -/

/-- A warp, every field (R99); its terms are four bytes each (R105; widths: log entry 22). -/
def warpD (w : Warp) : List Datum :=
  [.u8 w.seq.toNat, flagD w.bypass, flagD w.ceiling, .u16 w.permille] ++ quadD w.quad ++
  (warpTerms w).map fun z => .i32 z

/-- A warp that may be absent. -/
def optWarpD : Option Warp → List Datum
  | some w => .u8 1 :: warpD w
  | none => .u8 0 :: warpD ⟨0, false, false, 0, ⟨⟨0, 0⟩, ⟨0, 0⟩, ⟨0, 0⟩, ⟨0, 0⟩⟩, 0, 0, 0, 0, 0, 0, 0, 0⟩

/-- The SEQ of a warp that may be absent. -/
def seqD (w : Option Warp) : List Datum := optU8 (w.map fun x => x.seq.toNat)

/-- The time left of the acknowledge timer, while POSTED (R113). -/
def ackLeft (s : State) : Option Nat :=
  if s.wrp.link = .posted then s.wrp.ackTimer.map fun t => t - s.now else none

/-- GEOMETRY_GET's items (R113). R171 lists no width for the φ used, the band used, a SEQ, the area permille, a corner
pixel and the counters: 2, 1, 1, 2, 2 and 2 bytes (DESIGN CHOICE, log entry 22). -/
def geometryD (s : State) : List Datum :=
  liveD s.geo.live ++ [.u8 (orientationCode s.geo.orientation), flagD s.geo.geometryRestored] ++
  optGeomD s.lmm.staged ++ quadD s.geo.quad ++ [.u16 s.geo.permille] ++
  [.i16 s.geo.phiUsed, .u8 s.geo.bandUsed, flagD s.geo.refreshDue, flagD s.geo.geomHold] ++
  [.u8 (linkStateCode s.wrp.link)] ++ seqD s.wrp.sent ++ seqD s.wrp.pending ++ seqD s.wrp.inEffect ++
  optU16 (ackLeft s) ++ optWarpD s.wrp.last ++ [.u16 s.wrp.overflow, .u16 s.wrp.stray, .u16 s.wrp.stall]

/-! ### Sensors, fans, thermal, compensation (R127, R141, R155, R164) -/

/-- One channel record of SENSOR_GET (R127). The code and the smoothed value, whatever its unit, are two bytes each
(DESIGN CHOICE, log entry 22). -/
def sensorD (r : SensorRec) : List Datum :=
  [.u16 r.code, .u8 (sensorFlagCode r.flag), flagD r.filled] ++ optI16 r.smoothed

/-- SENSOR_GET's items (R127). A pitch and the number of scans are two bytes each (DESIGN CHOICE, log entry 22). -/
def sensorsD (s : State) : List Datum :=
  s.ssc.chans.toList.flatMap sensorD ++ optI16 s.ssc.chans.tlx.smoothed ++
  optI16 (match s.ssc.published with | some p => p.pitch | none => none) ++
  [.i16 s.ssc.tiltZero, .u8 (orientationCode s.ssc.detected), flagD s.ssc.decided, .u16 s.ssc.ceilHold,
   .u16 s.ssc.floorHold, .u8 (orientationCode s.ssc.effective), .u16 s.ssc.scans]

/-- One fan of FAN_GET (R141). A speed in rpm is two bytes and the low count one (DESIGN CHOICE, log entry 22). -/
def fanD (s : State) (f : Fan) : List Datum :=
  let r := s.fanRec f
  [.u8 (fanStateCode r.state), .u16 r.demand] ++ optU16 r.cap ++
  [.u16 r.cappedDuty, .u16 r.applied, flagD r.capped, flagD r.railLimited, .u16 r.rpm, .u16 r.expected, .u8 r.lowCount,
   flagD r.fanFault, .u16 (s.rlm.entry (.fan f)), flagD r.requestQueued]

/-- FAN_GET's items (R141). -/
def fansD (s : State) : List Datum :=
  allFans.flatMap (fanD s) ++
  [.u8 (quietCode s.ths.quiet), .u8 (priorityCode s.ths.priority), .u8 (orientationCode s.fan.usedCurves),
   .u16 s.fan.usedLight, .u8 (regimeCode s.fan.usedRegime)] ++
  s.fan.curves.toList.flatMap (fun c => curveD c.floor ++ curveD c.ceiling) ++ [.u16 s.fan.lightFF]

/-- The faulted mark of a used temperature; clear before the first set. -/
def faultedMark : Option Used → Bool
  | some u => u.faulted
  | none => false

/-- One sensor of THERMAL_GET (R155): its used temperature (absent before the first set), its faulted mark and its
CRIT hold. -/
def usedD (u : Option Used) (hold : Nat) : List Datum :=
  optI16 (u.map fun x => x.temp) ++ [flagD (faultedMark u), .u16 hold]

/-- The six sensors of THERMAL_GET (R155). -/
def usedSensorsD (t : Ths) : List Datum :=
  let us : PerThermo (Option Used) :=
    match t.used with
    | some u => u.map some
    | none => PerThermo.all none
  (us.zipWith usedD t.critHold).toList.flatMap id

/-- The used temperatures alone (R149). -/
def usedTempsD (t : Ths) : List Datum :=
  (t.used.getD (PerThermo.all ⟨0, false⟩)).toList.map fun u => .i16 u.temp

/-- THERMAL_GET's items (R155). The excess, L, the last notified L, the light demand and the granted value are two bytes
each (DESIGN CHOICE, log entry 22), and LSEN is a flag, 1 for asserted (DEDUCED, log entry 21). -/
def thermalD (t : Ths) : List Datum :=
  [.u8 (regimeCode t.regime), .u8 (regimeCode t.raw)] ++ causeD t ++ usedSensorsD t ++ [.u16 t.emergencyHold] ++
  t.fanFaults.toList.map flagD ++
  [.u16 t.excess, .u16 t.limit, .u16 t.notified, .u16 t.lightDemand, flagD t.lightEnable, .u16 (grantedLight t),
   flagD t.lsen] ++
  t.limits.toList.flatMap limitD ++ [.i16 t.hyst, .u8 (quietCode t.quiet), .u8 (priorityCode t.priority)]

/-- The fault flag of LNS as last published; OK before the first set. -/
def lnsFlag (s : State) : SensorFlag :=
  match s.ssc.published with
  | some p => p.chans.thermo.lns.flag
  | none => .ok

/-- The time since the last compensation start (R164). -/
def sinceStart (s : State) : Option Nat := s.fcp.lastStart.map fun t => min (s.now - t) 65535

/-- COMP_GET's items (R164). The table value I is that of the present table FC at the LNS value last used, also where FC
was loaded since, and is absent, with a presence byte, before the first one (DESIGN CHOICE, log entry 60). The zoom band
is one byte, and the difference from the target four (DESIGN CHOICE, log entry 22); beyond what four bytes hold it is a
free value (DESIGN CHOICE, log entry 71). -/
def compD (s : State) : List Datum :=
  [flagD s.fcp.enabled, .u16 s.fcp.deadband] ++ optI16 s.fcp.lnsUsed ++
  [.u8 (sensorFlagCode (lnsFlag s)), .u8 (zoomBand s)] ++
  optI16 (s.fcp.lnsUsed.map fun t => roundDiv (compTable50 s.fcp.comp t) 50) ++
  [.i16 s.fcp.offsetNow, flagD s.fcp.offsetKnown, flagD s.fcp.baseValid, .i32 s.fcp.base.toInt, .i32 (compTarget s),
   .i32 (compError s).toInt] ++
  optU16 (sinceStart s) ++ [flagD s.fcp.moveActive] ++ optU8 (s.fcp.lastResult.map moveResultCode) ++
  [.u8 (holdCode (compHold s))]

/-! ### STATUS_GET and IDENT_GET (R178, R179) -/

/-- The link section for a port. A counter is two bytes and the number of notices queued one (DESIGN CHOICE, log
entry 22). -/
def linkSection (s : State) (p : Port) : List Datum :=
  let r := s.port p
  [.u16 r.badFrames, .u16 r.overruns, .u8 (discardCode r.lastDiscard), flagD r.noticeLost, .u8 r.queue.length,
   .u8 s.lnk.main.mask.toNat, .u8 s.lnk.service.mask.toNat, .u8 s.lnk.permit.toNat]

/-- The alert section. -/
def alertSection (s : State) : List Datum :=
  [.u8 (standingMask s), .u8 s.lnk.alertMask.toNat, flagD s.lnk.linkLatch, flagD (alertDriven s)]

/-- One axis of the axes section. -/
def axisSection (r : AxisRec) : List Datum :=
  [.u8 (axisStateCode r.state), flagD r.referenced, .i32 r.position] ++ optU8 (r.faultCause.map axisCauseCode)

/-- The latches of a channel as a mask, in the order of R27. -/
def latchMask (c : Channel) : Nat := maskOf [c.overcurrent, c.openLoad, c.hitNotReached, c.calib]

/-- The published rail voltage. -/
def railVoltage (s : State) : Option Int :=
  match s.ssc.published with
  | some p => p.chans.rail.value
  | none => none

/-- The drive section (R31, R35). The rail voltage is two bytes (DESIGN CHOICE, log entry 22), and of the time since the last
run the whole seconds are carried (DESIGN CHOICE, log entry 74). -/
def driveSection (s : State) : List Datum :=
  s.drv.chans.toList.map (fun c => .u8 (latchMask c)) ++ [flagD s.drv.driverHot, flagD s.drv.railLow] ++
  optI16 (railVoltage s) ++
  [flagD s.drv.window.isSome, flagD s.drv.due, satU16 (wholeSeconds (s.now - s.drv.lastRun)), flagD s.drv.calibrateDone,
   flagD s.drv.requested]

/-- The requests of a queue in head order (R53, R64): `k` requests at most. -/
def headOrder : Nat → List StartReq → List StartReq
  | 0, _ => []
  | k + 1, q =>
    match headOf q with
    | none => []
    | some h => h :: headOrder k (q.filter fun x => x.requester ≠ h.requester)

/-- One request of the rail section (R64). -/
def requestD (now : Nat) (q : StartReq) : List Datum :=
  [.u8 (consumerCode q.requester), .u8 (classCode q.cls), .u16 q.need, satU16 (now - q.since)]

/-- The head hold (R64): NONE 0, WINDOW 1, SPACING 2, BUDGET 3. A head that fails none of the three conditions, as one does
after its spacing has lapsed and before GRANT_SPACING_EXPIRY, is reported with NONE: R64 gives no value for it (DESIGN
CHOICE, log entry 69). -/
def headHold (s : State) : Nat :=
  match headOf s.rlm.queue with
  | none => 0
  | some h =>
    if s.drv.window.isSome then 1
    else if !spacingAllows s.now s.rlm.grants then 2
    else if !fits s.rlm h.need then 3
    else 0

/-- The rail section (R64). The manual gives the queue no delimiter: the number of its requests stands before them, in
one byte, and the grants in the window are one byte too (DESIGN CHOICE, log entry 22). -/
def railSection (s : State) : List Datum :=
  [.u16 s.rlm.budget, flagD s.rlm.budgetRaised] ++ s.rlm.axes.toList.map (fun n => .u16 n) ++ [.u16 s.rlm.brake] ++
  s.rlm.fans.toList.map (fun n => .u16 n) ++ [.u16 s.rlm.sum, .u8 s.rlm.queue.length] ++
  (headOrder 8 s.rlm.queue).flatMap (requestD s.now) ++ [.u8 (headHold s), .u8 (recentGrants s.now s.rlm.grants)]

/-- The brake section (R178). -/
def brakeSection (b : Brk) : List Datum :=
  [.u8 (brakeStateCode b.state)] ++ optU8 (b.cause.map brakeCauseCode) ++ [flagD b.clampPending]

/-- Whether a preset write is in progress (R82). -/
def presetWriting (w : Option Write) : Bool :=
  match w with
  | some (.preset _ _ _) => true
  | some (.save _ _) => false
  | none => false

/-- The write in progress: NONE 0, PRESET 1, SAVE 2 (R180). -/
def writeCode (w : Option Write) : Nat :=
  match w with
  | none => 0
  | some (.preset _ _ _) => 1
  | some (.save _ _) => 2

/-- The lens-memory section (R82). -/
def memorySection (s : State) : List Datum :=
  [flagD s.lmm.active, .u8 (recallKindCode s.lmm.kind)] ++ optU8 s.lmm.slot ++
  [.u8 (maskOf s.lmm.owed.toList), flagD s.lmm.staged.isSome] ++ depthD s.lmm ++ [flagD (presetWriting s.sto.write)]

/-- The geometry section (R98). -/
def geometrySection (s : State) : List Datum :=
  liveD s.geo.live ++
  [.u8 (orientationCode s.geo.orientation), flagD s.lmm.staged.isSome, flagD s.geo.geomHold, flagD s.geo.geometryRestored]

/-- The warp section (R114). A SEQ is one byte and the stall counter two (DESIGN CHOICE, log entry 22). -/
def warpSection (r : Wrp) : List Datum := [.u8 (linkStateCode r.link)] ++ seqD r.inEffect ++ [.u16 r.stall]

/-- The sensor section (R127). The rail voltage is two bytes (DESIGN CHOICE, log entry 22). -/
def sensorSection (s : State) : List Datum :=
  (externals s.ssc.chans).map (fun r => .u8 (sensorFlagCode r.flag)) ++ optI16 (publishedDie s) ++
  optI16 (railVoltage s) ++ [.u8 (orientationCode s.ssc.detected), flagD s.ssc.decided]

/-- One fan of the fan section (R141). -/
def fanSection (r : FanRec) : List Datum :=
  [.u8 (fanStateCode r.state), .u16 r.applied, flagD r.capped, flagD r.railLimited, flagD r.fanFault]

/-- The thermal section (R155). L is two bytes (DESIGN CHOICE, log entry 22), and LSEN is a flag,
1 for asserted (DEDUCED, log entry 21). -/
def thermalSection (t : Ths) : List Datum := [.u8 (regimeCode t.regime)] ++ causeD t ++ [.u16 t.limit, flagD t.lsen]

/-- The compensation section (R164). -/
def compSection (f : Fcp) : List Datum := [flagD f.enabled, flagD f.baseValid, .i16 f.offsetNow, flagD f.moveActive]

/-- The store section (R180). -/
def storeSection (s : Sto) : List Datum := [flagD s.defaulted, .u8 (writeCode s.write)]

/-- STATUS_GET's items (R178). The widths that R171 does not list (the counters, the notices queued, the history depth,
the grants in the window, the rail voltage, L) are those of log entry 22 (DESIGN CHOICE). -/
def statusD (s : State) (p : Port) : List Datum :=
  linkSection s p ++ alertSection s ++ s.axc.toList.flatMap axisSection ++ driveSection s ++ railSection s ++
  brakeSection s.brk ++ memorySection s ++ geometrySection s ++ warpSection s.wrp ++ sensorSection s ++
  s.fan.recs.toList.flatMap fanSection ++ thermalSection s.ths ++ compSection s.fcp ++ storeSection s.sto

/-- The part name as ASCII characters (R179). -/
def partName : List Byte := [0x4E, 0x43, 0x4C, 0x2D, 0x32, 0x32, 0x30, 0x34]

/-- The time since the last power-on or pin reset in seconds, saturating (R179), a fraction of a second left off (DESIGN
CHOICE, log entry 74). -/
def uptime (s : State) : Nat := min (wholeSeconds s.now) 4294967295

/-- IDENT_GET's items (R179). The silicon revision, the protocol version and the image format version are one byte each
and the time four (DESIGN CHOICE, log entry 22). -/
def identD (s : State) : List Datum :=
  rawD partName ++
  [.u8 Config.siliconRevision.toNat, .u8 1, .u8 Config.imageVersion.toNat, .u32 (uptime s),
   .u8 (resetKindCode s.start.kind)]

/-! ### Notices (R174) -/

/-- The result of a RECALL_DONE: OK 0, or the failing result (R82). -/
def recallResultCode : Option MoveResult → Nat
  | none => 0
  | some r => moveResultCode r

/-- The result of the power-on recall in READY (R184): whether there was one, a refusal or an end, and its code. -/
def outcomeD : RecallOutcome → List Datum
  | .none => [.u8 0, .u8 0]
  | .refused r => [.u8 1, .u8 (resultCode r)]
  | .ended r => [.u8 2, .u8 (recallResultCode r)]

/-- The owner of a channel: the axis, or BRAKE (R31). -/
def ownerCode (c : Chan) : Nat :=
  match ownerOf c with
  | some a => axisCode a
  | none => 4

/-- The number of a channel. -/
def chanCode : Chan → Nat
  | .ch0 => 0
  | .ch1 => 1
  | .ch2 => 2
  | .ch3 => 3
  | .ch4 => 4
  | .ch5 => 5
  | .ch6 => 6
  | .ch7 => 7
  | .ch8 => 8

/-- A FAULT notice's contents, after a byte that tells what the notice names; of DRIVER_HOT and RAIL_LOW a flag byte,
1 for began and 0 for ended; a channel number is one byte and a speed two (DESIGN CHOICE, log entry 22). -/
def faultD : FaultNote → List Datum
  | .channel c l => [.u8 0, .u8 (chanCode c), .u8 (latchCode l), .u8 (ownerCode c)]
  | .driverHot b => [.u8 1, flagD b]
  | .railLow b => [.u8 2, flagD b]
  | .noRelease => [.u8 3]
  | .sensor i f => [.u8 4, .u8 i, .u8 (sensorFlagCode f)]
  | .fan f m e => [.u8 5, .u8 (fanCode f), .u16 m, .u16 e]

/-- A notice's contents (R174). L and the excess of LIGHT_LIMIT, the area permille and the corner pixels of WARP, the two
speeds of a fan's FAULT and the TLZ code of ORIENTATION are two bytes each (DESIGN CHOICE, log entry 22). -/
def noticeD : Notice → List Datum
  | .motionDone a o r p => [.u8 (axisCode a), .u8 (originCode o), .u8 (moveResultCode r), .i32 p]
  | .recallDone k slot r f live =>
    [.u8 (recallKindCode k)] ++ optU8 slot ++ [.u8 (recallResultCode r)] ++ optU8 (f.map axisCode) ++ [flagD live]
  | .regime old new raw u ff =>
    [.u8 (regimeCode old), .u8 (regimeCode new), .u8 (regimeCode raw)] ++
    u.toList.flatMap (fun x => [.i16 x.temp, flagD x.faulted]) ++ ff.toList.map flagD
  | .lightLimit l r p e => [.u16 l, .u8 (regimeCode r), .u8 (priorityCode p), .u16 e]
  | .fault n => faultD n
  | .warp seq b c m q pending =>
    [.u8 seq.toNat, flagD b, flagD c, .u16 m] ++ quadD q ++ [flagD pending]
  | .ready k refs d out =>
    [.u8 (resetKindCode k)] ++ refs.toList.map flagD ++ [flagD d] ++ outcomeD out
  | .orientation o z => [.u8 (orientationCode o), .u16 z.toNat]

/-! ### Frames (R166, R169) -/

/-- A frame of a KIND, a TAG and a payload (R166). -/
def frameBytes (kind tag : Byte) (payload : List Byte) : List Byte :=
  let body := [BitVec.ofNat 8 (payload.length + 2), kind, tag] ++ payload
  [0xD5] ++ body ++ crcBytes body

/-- A reply's payload: RESULT, FLAGS and the data (R169). -/
def replyPayload (r : Reply) : List Byte :=
  [BitVec.ofNat 8 (resultCode r.result), BitVec.ofNat 8 (flagsCode r.flags)] ++ r.data.flatMap datumBytes

/-- The bytes of a frame on a transmitter (R166, R169, R174): a reply's KIND is the request's plus 0x80; a notice's TAG
is 0. -/
def outBytes : OutFrame → List Byte
  | .reply r => frameBytes (r.kind + 0x80) r.tag (replyPayload r)
  | .notice n => frameBytes (noticeKind n) 0 ((noticeD n).flatMap datumBytes)

end Sys2Proof.Machine
end

