-- ==== Sys2Proof/Machine/LinkRequests.lean ====
section
/-! DEFINITION. The owners' answers to the requests of the link, the rail, the store and the tables (R49, R173 to R182,
R185). -/

namespace Sys2Proof.Machine
open Sys2Proof

/-- What an owner answers: RESULT, FLAGS and data (R169). -/
structure Answer where
  result : Result
  flags : Flags
  data : List Datum
  deriving DecidableEq, Repr

/-- A refusal: no flags, no data (R169). -/
def refuse (r : Result) : Answer := ⟨r, noFlags, []⟩

/-- OK alone. -/
def okAnswer : Answer := ⟨.ok, noFlags, []⟩

/-- OK with data. -/
def okData (d : List Datum) : Answer := ⟨.ok, noFlags, d⟩

/-- OK with flags. -/
def okFlags (f : Flags) : Answer := ⟨.ok, f, []⟩

/-- ACCEPTED with flags. -/
def acceptedFlags (f : Flags) : Answer := ⟨.accepted, f, []⟩

/-- The answer to an entirely protected request from MAIN (R172). -/
def maskedAnswer : Answer := okFlags maskedFlag

/-- A permission of the map is closed to a port (R173). -/
def closedTo (s : State) (p : Port) (bit : Nat) : Bool := p = .main && !maskBit s.lnk.permit bit

/-- The bit of GEOMETRY in the permission map (R173). -/
def geometryBit : Nat := 4

/-- The bit of PRESET in the permission map (R173). -/
def presetBit : Nat := 5

/-! ### Identity, status and masks -/

/-- IDENT_GET (R179). -/
def askIdent (s : State) : State × Answer := (s, okData (identD s))

/-- STATUS_GET: reporting NOTICE_LOST clears it on the port asking (R174, R178). -/
def askStatus (p : Port) (s : State) : State × Answer :=
  (s.setPort p { s.port p with noticeLost := false }, okData (statusD s p))

/-- ALERT_MASK_SET (R175). -/
def askAlertMask (mask : Byte) (s : State) : State × Answer :=
  ({ s with lnk := { s.lnk with alertMask := mask } }, okAnswer)

/-- ALERT_CLEAR: the reply carries the classes standing after the clear (R176). -/
def askAlertClear (s : State) : State × Answer :=
  let s' := { s with lnk := { s.lnk with linkLatch := false } }
  (s', okData [.u8 (standingMask s')])

/-- NOTICE_MASK_SET: the mask of the port on which it arrives (R174). -/
def askNoticeMask (p : Port) (mask : Byte) (s : State) : State × Answer :=
  (s.setPort p { s.port p with mask := mask }, okAnswer)

/-- The frames that leave a port before a reply that is built now: the one on the transmitter and the one in reply
ready (R168, R170). -/
def framesAhead (r : PortRec) : Nat := flagCode r.transmitter.isSome + flagCode r.replyReady.isSome

/-- RESET: the soft reset follows its reply (R185). One already arranged stands (log entry 19). -/
def askReset (p : Port) (s : State) : State × Answer :=
  (if s.lnk.arranged.isSome then s
    else { s with lnk := { s.lnk with arranged := some ⟨p, false, framesAhead (s.port p)⟩ } }, okAnswer)

/-- PERMIT_SET: a value naming anything but the six permissions is refused (R173). -/
def askPermit (p : Port) (map : Byte) (s : State) : State × Answer :=
  if p = .main then (s, maskedAnswer)
  else if 64 ≤ map.toNat then (s, refuse .range)
  else ({ s with lnk := { s.lnk with permit := map } }, okAnswer)

/-! ### Budget, tables and settings -/

/-- BUDGET_SET (R49): taken as the budget it starts an examination. The value is read unsigned (DEDUCED, log entry 20). -/
def askBudget (p : Port) (b : Half) (s : State) : State × Answer :=
  if p = .main then (s, maskedAnswer)
  else
    let v := clampNat 1000 4000 b.toNat
    if v < s.rlm.sum then (s, refuse .state)
    else
      (examine { s with rlm := { s.rlm with budget := v, budgetRaised := false } }, okFlags (clampedFlag (v ≠ b.toNat)))

/-- TABLE_SET (R172, R177); a BRAKE table restates a waiting BRAKE request, which starts an examination (R52, R54). -/
def askTableSet (p : Port) (t : Byte) (entries : List Half) (s : State) : State × Answer :=
  match tableOf t with
  | none => (s, refuse .range)
  | some id =>
    if p = .main then (s, maskedAnswer)
    else
      let given := entries.map fun h => h.toInt
      let taken := acceptedEntries id given
      (examineAfter s (setTable id taken s), okFlags (clampedFlag (taken ≠ given)))

/-- TABLE_GET (R177). -/
def askTableGet (t : Byte) (s : State) : State × Answer :=
  match tableOf t with
  | none => (s, refuse .range)
  | some id => (s, okData ((tableEntries s id).map fun z => .i16 z))

/-- SETTINGS_SAVE: the parts are captured now, and the reply follows the write (R181). -/
def askSave (p : Port) (s : State) : State × Option Answer :=
  if s.sto.write.isSome then (s, some (refuse .busy))
  else ({ s with sto := { s.sto with write := some (.save p (captureParts s)) } }, none)

/-- Whether every axis is PARKED or FAULTED (R182). -/
def axesIdle (s : State) : Bool := s.axc.toList.all fun r => r.state = .parked || r.state = .faulted

/-- SETTINGS_DEFAULT (R172, R182). From SERVICE the protected settings are loaded before the operator ones (DESIGN CHOICE,
log entry 63). -/
def askDefault (p : Port) (s : State) : State × Answer :=
  if !axesIdle s then (s, refuse .busy)
  else
    match p with
    | .main => (examineAfter s (loadOperator false s), maskedAnswer)
    | .service => (examineAfter s (loadOperator true (loadProtected s)), okAnswer)

end Sys2Proof.Machine
end

