-- ==== Sys2Proof/Machine/AxisRequests.lean ====
section
/-! DEFINITION. The answers of AXC, DRV and BRK to their requests (R3, R4, R6, R15, R16, R26, R38, R45, R46). -/

namespace Sys2Proof.Machine
open Sys2Proof

/-- AXIS_MOVE (R6, R7, R78). -/
def askMove (p : Port) (axis : Byte) (target : Long) (speed : Byte) (s : State) : State × Answer :=
  match axisOf axis, speedOf speed with
  | some a, some cls =>
    if closedTo s p (axisCode a) then (s, refuse .denied)
    else
      match motionCheck s a .absolute with
      | some r => (s, refuse r)
      | none =>
        let t := absTarget (s.axis a) target.toInt
        (examineMove a s (takeMove a .user t cls (pushHistory .move s)), acceptedFlags (clampedFlag (t ≠ target.toInt)))
  | _, _ => (s, refuse .range)

/-- AXIS_JOG (R6, R7, R78, R79). -/
def askJog (p : Port) (axis : Byte) (count : Long) (speed : Byte) (s : State) : State × Answer :=
  match axisOf axis, speedOf speed with
  | some a, some cls =>
    if closedTo s p (axisCode a) then (s, refuse .denied)
    else
      match motionCheck s a .jog with
      | some r => (s, refuse r)
      | none =>
        let t := jogTarget (s.axis a) count.toInt
        (examineMove a s (takeMove a .user t.1 cls (pushHistory (.jog a) s)),
          acceptedFlags { clampedFlag t.2 with coalesced := coalesces (.jog a) s.lmm.history })
  | _, _ => (s, refuse .range)

/-- AXIS_STOP: one axis, or all in order (R15). -/
def askStop (axis : Byte) (s : State) : State × Answer :=
  match stopAxes axis with
  | some l => (examineAfter s (l.foldl (fun t a => stopAxis a t) s), okAnswer)
  | none => (s, refuse .range)

/-- AXIS_HOME (R6, R16). Start-up asks as if from SERVICE (R184). -/
def askHome (p : Port) (axis : Byte) (s : State) : State × Answer :=
  match axisOf axis with
  | some a =>
    if closedTo s p (axisCode a) then (s, refuse .denied)
    else
      match motionCheck s a .home with
      | some r => (s, refuse r)
      | none => (examineAfter s (takeHome a s), acceptedFlags noFlags)
  | none => (s, refuse .range)

/-! ### AXIS_CONFIG_SET (R3) -/

/-- The settings a payload gives, with approach direction and idle policy read. -/
def wireSettings (w : AxisConfigWire) (d : Dir) (i : IdlePolicy) : AxisSettings :=
  ⟨w.travelMin.toInt, w.travelMax.toInt, w.refPos.toInt, w.run.toNat, w.hold.toNat, w.accel.toNat, w.stall.toNat, d,
   w.takeup.toInt, i, w.settle.toNat⟩

/-- From MAIN every protected field keeps its present value (R3 step 1). -/
def maskSettings (p : Port) (old new : AxisSettings) : AxisSettings :=
  match p with
  | .service => new
  | .main => { old with approach := new.approach, takeup := new.takeup, idle := new.idle, settle := new.settle }

/-- The fields outside their ranges clamped (R3 step 3). A HOLD is compared with the RUN as already clamped, which R3 does
not say of a RUN that is itself out of range (DESIGN CHOICE, log entry 65). -/
def clampSettings (st : AxisSettings) : AxisSettings :=
  let run := clampNat 100 900 st.run
  { st with
    refPos := clampInt st.travelMin st.travelMax st.refPos, run := run, hold := min st.hold run
    accel := clampNat 1600 51200 st.accel, takeup := clampInt 0 800 st.takeup, settle := min st.settle 1000 }

/-- AXIS_CONFIG_SET (R3). -/
def askConfigSet (p : Port) (axis : Byte) (w : AxisConfigWire) (s : State) : State × Answer :=
  match axisOf axis, dirOf w.approach, idleOf w.idle with
  | some a, some d, some i =>
    let r := s.axis a
    if r.state ≠ .parked ∧ r.state ≠ .faulted then (s, refuse .busy)
    else
      let st := maskSettings p r.settings (wireSettings w d i)
      if st.travelMax ≤ st.travelMin then (s, refuse .range)
      else
        let st' := clampSettings st
        (examineAfter s (setAxisSettings a st' s), okFlags { clampedFlag (st' ≠ st) with masked := p = .main })
  | _, _, _ => (s, refuse .range)

/-- AXIS_CONFIG_GET (R4). -/
def askConfigGet (axis : Byte) (s : State) : State × Answer :=
  match axisOf axis with
  | some a => (s, okData (axisConfigD (s.axis a)))
  | none => (s, refuse .range)

/-! ### AXIS_CLEAR (R26) -/

/-- The fault cause of an axis still stands (R26). -/
def causeStands (s : State) (a : Axis) : Bool :=
  ((s.axis a).faultCause = some .driverHot && s.drv.driverHot) || ((s.axis a).faultCause = some .railLow && s.drv.railLow)

/-- The latches of an axis's two channels cleared (R26). -/
def clearAxisChans (a : Axis) (s : State) : State :=
  let c := chansOf a
  let s' := s.setChan c.1 (s.chan c.1).clearAxisLatches
  s'.setChan c.2 (s'.chan c.2).clearAxisLatches

/-- AXIS_CLEAR (R26). -/
def askClear (axis : Byte) (s : State) : State × Answer :=
  match axisOf axis with
  | none => (s, refuse .range)
  | some a =>
    if (s.axis a).state ≠ .faulted then (s, okAnswer)
    else if causeStands s a then (s, refuse .state)
    else
      let s' := clearAxisChans a (unreference a s)
      (s'.setAxis a { s'.axis a with state := .parked, faultCause := none }, okAnswer)

/-! ### Brake and calibration (R38, R45, R46) -/

/-- BRAKE_CLEAR (R45). -/
def askBrakeClear (s : State) : State × Answer :=
  if s.brk.state ≠ .faulted then (s, okAnswer)
  else if s.brk.clampPending then (s, refuse .busy)
  else
    let s' := s.setChan .ch8 (s.chan .ch8).clearLatches
    (examineAfter s (clampedReport { s' with brk := { s'.brk with state := .engaged, cause := none } }), okAnswer)

/-- CALIBRATE (R36, R38). -/
def askCalibrate (s : State) : State × Answer :=
  if !allOff s.drv then (s, refuse .busy)
  else if s.drv.window.isSome then
    ({ s with drv := { s.drv with requested := true, calibrateDone := false } }, okAnswer)
  else
    (openWindow { s with drv := { s.drv with due := true, requested := true, calibrateDone := false } }, okAnswer)

/-- BRAKE_SET release from SERVICE (R46). -/
def brakeSetRelease (s : State) : State × Answer :=
  match s.brk.state with
  | .faulted => (s, refuse .fault)
  | st =>
    if !shiftDriven s then (s, refuse .state)
    else if st = .releasing ∨ st = .released then (s, okAnswer)
    else (examineAfter s (brakeRelease s), okAnswer)

/-- BRAKE_SET engage from SERVICE (R46). -/
def brakeSetEngage (s : State) : State × Answer :=
  if s.brk.state = .faulted then (s, okAnswer) else (examineAfter s (forceEngage s), okAnswer)

/-- BRAKE_SET (R46, R172). -/
def askBrakeSet (p : Port) (action : Byte) (s : State) : State × Answer :=
  if p = .main then (s, maskedAnswer)
  else
    match brakeActionOf action with
    | none => (s, refuse .range)
    | some .engage => brakeSetEngage s
    | some .release => brakeSetRelease s

end Sys2Proof.Machine
end

