-- ==== Sys2Proof/Machine/MemoryRequests.lean ====
section
/-! DEFINITION. Lens memory's answers to its requests (R67 to R72, R76, R80, R81). -/

namespace Sys2Proof.Machine
open Sys2Proof

/-! ### Presets (R67 to R69) -/

/-- A slot number (R65). -/
def slotOf (b : Byte) : Option Nat := if b.toNat < 12 then some b.toNat else none

/-- The preset of a slot. -/
def presetAt (s : State) (n : Nat) : Preset := s.lmm.presets.getD n emptyPreset

/-- Printable ASCII (R65). -/
def printable (b : Byte) : Bool := 32 ≤ b.toNat && b.toNat ≤ 126

/-- Whether the axis of a mask bit is named. -/
def maskNames (mask : Byte) (a : Axis) : Bool := maskBit mask (axisCode a)

/-- An axis named in a mask is unreferenced (R67 check 4). -/
def maskUnreferenced (s : State) (mask : Byte) : Bool :=
  allAxes.any fun a => maskNames mask a && !(s.axis a).referenced

/-- An include-geometry byte counts as set (log entry 15). -/
def includesGeometry (b : Byte) : Bool :=
  match flagOf b with
  | some x => x
  | none => Config.oddFlag b

/-- A mask with bits that name no axis is refused (log entry 15). -/
def maskRefused (mask : Byte) : Bool := 16 ≤ mask.toNat && Config.strayMaskRefused mask

/-- The new contents of a slot (R66, R67). -/
def newPreset (s : State) (mask geometry : Byte) (label : List Byte) : Preset where
  valid := true
  label := label
  pos :=
    ⟨if maskNames mask .hsh then restingPosition s.axc.hsh else none,
     if maskNames mask .vsh then restingPosition s.axc.vsh else none,
     if maskNames mask .zom then restingPosition s.axc.zom else none,
     if maskNames mask .foc then focEntry s else none⟩
  focBase := maskNames mask .foc && recordsBase s
  geom := if includesGeometry geometry then some s.geo.live.geom else none

/-- PRESET_STORE (R67, R68): the reply follows the write. -/
def askPresetStore (p : Port) (slot mask geometry : Byte) (label : List Byte) (s : State) : State × Option Answer :=
  match slotOf slot with
  | none => (s, some (refuse .range))
  | some n =>
    if !label.all printable || maskRefused mask then (s, some (refuse .range))
    else if closedTo s p presetBit then (s, some (refuse .denied))
    else if s.sto.write.isSome then (s, some (refuse .busy))
    else if maskUnreferenced s mask then (s, some (refuse .state))
    else ({ s with sto := { s.sto with write := some (.preset p n (newPreset s mask geometry label)) } }, none)

/-- PRESET_ERASE (R68). -/
def askPresetErase (p : Port) (slot : Byte) (s : State) : State × Option Answer :=
  match slotOf slot with
  | none => (s, some (refuse .range))
  | some n =>
    if closedTo s p presetBit then (s, some (refuse .denied))
    else if s.sto.write.isSome then (s, some (refuse .busy))
    else if (presetAt s n).valid then
      ({ s with sto := { s.sto with write := some (.preset p n emptyPreset) } }, none)
    else (s, some okAnswer)

/-- PRESET_GET (R69). -/
def askPresetGet (slot : Byte) (s : State) : State × Answer :=
  match slotOf slot with
  | none => (s, refuse .range)
  | some n => (s, okData (presetD (presetAt s n)))

/-! ### Targets of a recall (R71, R72, R80) -/

/-- An axis whose position is held is unreferenced (R71 check 4). -/
def heldUnreferenced (s : State) (pos : PerAxis (Option Int)) : Bool :=
  allAxes.any fun a => (pos.get a).isSome && !(s.axis a).referenced

/-- The faults of check 7 of R71 (check 6 of R80). -/
def recallFault (s : State) (pos : PerAxis (Option Int)) : Bool :=
  ((s.drv.driverHot || s.drv.railLow) && pos.toList.any fun x => x.isSome) ||
  ((pos.hsh.isSome || pos.vsh.isSome) && s.brk.state = .faulted) ||
  (pos.hsh.isSome && s.axc.vsh.state = .faulted) || (pos.vsh.isSome && s.axc.hsh.state = .faulted)

/-- The value a recall asks of an axis before R7 clamps it (R72 step 2). -/
def rawTarget (s : State) (focBase : Bool) (a : Axis) (x : Int) : Int :=
  if a = .foc ∧ focBase ∧ s.fcp.enabled then x + s.fcp.offsetNow else x

/-- The target of an axis, when the record holds its position (R72 step 2, R7). -/
def recallTarget (s : State) (pos : PerAxis (Option Int)) (focBase : Bool) (a : Axis) : Option Int :=
  (pos.get a).map fun x => absTarget (s.axis a) (rawTarget s focBase a x)

/-- Whether a target was clamped (R72 step 7). -/
def recallClamped (s : State) (pos : PerAxis (Option Int)) (focBase : Bool) : Bool :=
  allAxes.any fun a => recallTarget s pos focBase a ≠ (pos.get a).map (rawTarget s focBase a)

/-- An axis is at rest on a target (R72 step 3). -/
def restsAt (r : AxisRec) (t : Int) : Bool :=
  (r.state = .parked || r.state = .holding || r.state = .settling) && r.position = t

/-- What a recall asks of an axis: its target when it must move (R72 step 3, R76). `owed`: it is owed already. -/
def recallAsk (s : State) (pos : PerAxis (Option Int)) (focBase : Bool) (owed : PerAxis Bool) (a : Axis) : Option Int :=
  match recallTarget s pos focBase a with
  | none => none
  | some t => if !owed.get a && restsAt (s.axis a) t then none else some t

/-- The MOTION_DONE result that stands for a refusal of a recall's move (log entry 14). -/
def refusalResult : Result → MoveResult
  | .thermal => .thermal
  | _ => .fault

/-- A move asked of AXC for a recall (R72 step 4): the state, and the refusal if AXC refuses it. -/
def askLens (o : Origin) (a : Axis) (t : Int) (s : State) : State × Option Result :=
  match motionCheck s a .absolute with
  | some r => (s, some r)
  | none => (examineMove a s (takeMove a o t .normal s), none)

/-- The refusal a recall fails for, after AXC refused a move of `a` with `r`: the first one of an axis that was not owed
before. An axis owed already has a move in progress, whose own end tells it (DEDUCED, log entry 14). -/
def noteRefusal (owed : PerAxis Bool) (a : Axis) (r : Result) : Option (Axis × Result) → Option (Axis × Result)
  | some x => some x
  | none => if owed.get a then none else some (a, r)

/-- The moves of a recall, axis by axis: the state and the refusal it fails for (R72 step 4, R76). `owed` is the owed set
it starts from. -/
def askMoves (o : Origin) (asks : PerAxis (Option Int)) (owed : PerAxis Bool) :
    List Axis → State × Option (Axis × Result) → State × Option (Axis × Result)
  | [], x => x
  | a :: rest, (s, ref) =>
    match asks.get a with
    | none => askMoves o asks owed rest (s, ref)
    | some t =>
      match askLens o a t s with
      | (s', none) => askMoves o asks owed rest (s', ref)
      | (s', some r) => askMoves o asks owed rest (s', noteRefusal owed a r ref)

/-- The staged geometry of a recall made present or absent (R72 step 6, R76, R80). -/
def stageFor (j : Option Judged) (s : State) : State :=
  match j with
  | some x => stageGeometry x s
  | none => { s with lmm := { s.lmm with staged := none } }

/-- A recall or history step run (R72 steps 2 to 7, R76, R80). `owed` is the owed set it starts from. It fails at once
when AXC refuses the move of an axis that was not owed (DEDUCED, log entry 14). -/
def runRecall (kind : RecallKind) (slot : Option Nat) (pos : PerAxis (Option Int)) (focBase : Bool)
    (geom : Option Judged) (owed : PerAxis Bool) (s : State) : State × Answer :=
  let o : Origin := match kind with | .recalled => .recalled | .back => .back
  let asks : PerAxis (Option Int) :=
    ⟨recallAsk s pos focBase owed .hsh, recallAsk s pos focBase owed .vsh, recallAsk s pos focBase owed .zom,
     recallAsk s pos focBase owed .foc⟩
  let owed' : PerAxis Bool :=
    ⟨owed.hsh || asks.hsh.isSome, owed.vsh || asks.vsh.isSome, owed.zom || asks.zom.isSome,
     owed.foc || asks.foc.isSome⟩
  let m := askMoves o asks owed allAxes (s, none)
  let s1 := stageFor geom { m.1 with lmm := { m.1.lmm with active := true, kind := kind, slot := slot, owed := owed' } }
  let s2 :=
    match m.2 with
    | some (a, r) => recallFails (refusalResult r) a s1
    | none => s1
  (recallIfDone s2, acceptedFlags (clampedFlag (recallClamped s pos focBase)))

/-- The GEOMETRY refusal: the reason and the area permille of the refused quad (R86), two bytes, signed (DESIGN CHOICE,
log entry 22). -/
def geometryRefusal (q : Quad) (r : QuadReason) : Answer :=
  ⟨.geometry, noFlags, [.u8 (quadReasonCode r), .i16 (permilleOf q)]⟩

/-- A held geometry record that GEO finds invalid (R71 check 8, R97). -/
def heldRefusal (j : Option Judged) : Option Answer :=
  match j with
  | none => none
  | some x => (judgeQuad (quadOf x.geom)).map (geometryRefusal (quadOf x.geom))

/-! ### PRESET_RECALL (R71, R72, R76) -/

/-- The checks of R71 after the slot and permission. -/
def recallCheck (s : State) (x : Preset) (j : Option Judged) : Option Answer :=
  if !x.valid then some (refuse .empty)
  else if heldUnreferenced s x.pos then some (refuse .state)
  else if regimeClosed s.ths.regime then some (refuse .thermal)
  else if s.lmm.active ∧ s.lmm.kind = .back then some (refuse .busy)
  else if recallFault s x.pos then some (refuse .fault)
  else heldRefusal j

/-- PRESET_RECALL (R71): a fresh recall pushes its snapshot (R72); one that replaces an active recall does not (R76). -/
def askRecall (p : Port) (slot : Byte) (s : State) : State × Answer :=
  match slotOf slot with
  | none => (s, refuse .range)
  | some n =>
    let x := presetAt s n
    let j := x.geom.map (judgeRecord s)
    if closedTo s p presetBit then (s, refuse .denied)
    else
      match recallCheck s x j with
      | some ans => (s, ans)
      | none =>
        if s.lmm.active then runRecall .recalled (some n) x.pos x.focBase j s.lmm.owed s
        else runRecall .recalled (some n) x.pos x.focBase j (PerAxis.all false) (pushHistory .recalled s)

/-! ### History (R80, R81) -/

/-- Any axis is MOVING, WAIT_START or HOMING (R80 check 3). -/
def axesBusy (s : State) : Bool :=
  s.axc.toList.any fun r => r.state = .moving || r.state = .waitStart || r.state = .homing

/-- HISTORY_BACK (R80). -/
def askBack (p : Port) (s : State) : State × Answer :=
  if closedTo s p presetBit then (s, refuse .denied)
  else
    match s.lmm.history with
    | [] => (s, refuse .empty)
    | x :: rest =>
      let j := some (judgeRecord s x.geom)
      if axesBusy s || s.lmm.active then (s, refuse .busy)
      else if regimeClosed s.ths.regime then (s, refuse .thermal)
      else if heldUnreferenced s x.pos then (s, refuse .state)
      else if recallFault s x.pos then (s, refuse .fault)
      else
        match heldRefusal j with
        | some ans => (s, ans)
        | none =>
          runRecall .back none x.pos x.focBase j (PerAxis.all false) { s with lmm := { s.lmm with history := rest } }

/-- HISTORY_GET (R81). -/
def askHistoryGet (index : Byte) (s : State) : State × Answer :=
  if 7 < index.toNat then (s, refuse .range)
  else
    match s.lmm.history[index.toNat]? with
    | none => (s, ⟨.empty, noFlags, depthD s.lmm⟩)
    | some x => (s, okData (depthD s.lmm ++ snapshotD x))

end Sys2Proof.Machine
end

