-- ==== Sys2Proof/Machine/GeometryRequests.lean ====
section
/-! DEFINITION. GEO's and WRP's answers to their requests (R88 to R91, R111, R113). -/

namespace Sys2Proof.Machine
open Sys2Proof

/-- A record with one corner's offset replaced (R88 step 5); none for a corner outside 0..3. -/
def withCorner (g : Geom) (corner : Byte) (d : Pt) : Option Geom :=
  match corner.toNat with
  | 0 => some { g with corners := { g.corners with p0 := d } }
  | 1 => some { g with corners := { g.corners with p1 := d } }
  | 2 => some { g with corners := { g.corners with p2 := d } }
  | 3 => some { g with corners := { g.corners with p3 := d } }
  | _ => none

/-- The keystone record changed, and the new input handed when the record is the live one (R88 step 7, R89). -/
def changeKeystone (g : Geom) (s : State) : State :=
  if s.lmm.staged.isSome then setKeystoneRecord g s else handIfChanged (setKeystoneRecord g s)

/-- CORNER_SET (R88). -/
def askCorner (p : Port) (corner : Byte) (dx dy : Half) (s : State) : State × Answer :=
  let d : Pt := ⟨clampInt (-960) 960 dx.toInt, clampInt (-540) 540 dy.toInt⟩
  match withCorner (keystoneRecord s) corner d with
  | none => (s, refuse .range)
  | some g =>
    if closedTo s p geometryBit then (s, refuse .denied)
    else
      match judgeQuad (quadOf g) with
      | some r => (s, geometryRefusal (quadOf g) r)
      | none =>
        (changeKeystone g (pushHistory .corner s),
          okFlags ⟨d.x ≠ dx.toInt || d.y ≠ dy.toInt, false, s.lmm.staged.isSome, coalesces .corner s.lmm.history⟩)

/-- KEYSTONE_SET MANUAL (R89). -/
def keystoneManual (v : Half) (s : State) : State × Answer :=
  let v' := clampInt (-400) 400 v.toInt
  let g : Geom := { keystoneRecord s with mode := .manual, v := v' }
  match judgeQuad (quadOf g) with
  | some r => (s, geometryRefusal (quadOf g) r)
  | none =>
    (changeKeystone g { s with geo := { s.geo with geomHold := false, refreshDue := false } },
      okFlags ⟨v' ≠ v.toInt, false, s.lmm.staged.isSome, false⟩)

/-- KEYSTONE_SET AUTO (R89): V keeps its value, and an evaluation is owed. -/
def keystoneAuto (s : State) : State × Answer :=
  let s' := setKeystoneRecord { keystoneRecord s with mode := .auto } s
  ({ s' with geo := { s'.geo with refreshDue := true } }, okFlags ⟨false, false, s.lmm.staged.isSome, false⟩)

/-- KEYSTONE_SET (R89). -/
def askKeystone (p : Port) (mode : Byte) (v : Half) (s : State) : State × Answer :=
  match keyModeOf mode with
  | none => (s, refuse .range)
  | some m =>
    if closedTo s p geometryBit then (s, refuse .denied)
    else
      match m with
      | .manual => keystoneManual v s
      | .auto => keystoneAuto s

/-- MOUNT_SET (R90). -/
def askMount (p : Port) (mode : Byte) (s : State) : State × Answer :=
  match mountOf mode with
  | none => (s, refuse .range)
  | some m =>
    if closedTo s p geometryBit then (s, refuse .denied)
    else
      (handIfChanged (formOrientation { s with geo := { s.geo with live := { s.geo.live with mount := m } } }), okAnswer)

/-- WARP_MODE_SET (R91). -/
def askWarpMode (p : Port) (mode : Byte) (s : State) : State × Answer :=
  match warpModeOf mode with
  | none => (s, refuse .range)
  | some m =>
    if closedTo s p geometryBit then (s, refuse .denied)
    else (handIfChanged { s with geo := { s.geo with live := { s.geo.live with warp := m } } }, okAnswer)

/-- GEOMETRY_GET (R113). -/
def askGeometryGet (s : State) : State × Answer := (s, okData (geometryD s))

/-- WARP_RESEND (R111). -/
def askResend (s : State) : State × Answer :=
  match s.wrp.link, s.wrp.last with
  | .posted, _ => (s, refuse .busy)
  | .idle, some w => ({ s with wrp := sendWarp s.now w s.wrp }, okAnswer)
  | .stalled, some w => ({ s with wrp := sendWarp s.now w s.wrp }, okAnswer)
  | .idle, none => (s, refuse .state)
  | .stalled, none => (s, refuse .state)

end Sys2Proof.Machine
end

