-- ==== Sys2Proof/Machine/ControlRequests.lean ====
section
/-! DEFINITION. The answers of SSC, FAN, THS and FCP to their requests (R127, R139 to R141, R149, R152 to R155, R163,
R164). -/

namespace Sys2Proof.Machine
open Sys2Proof

/-- SENSOR_GET (R127). -/
def askSensorGet (s : State) : State × Answer := (s, okData (sensorsD s))

/-! ### Fans (R139 to R141) -/

/-- A curve as the payload gives it (R131, R140). -/
def wireCurve (w : CurveWire) : Curve :=
  ⟨⟨w.p1.temp.toInt, w.p1.duty.toNat⟩, ⟨w.p2.temp.toInt, w.p2.duty.toNat⟩, ⟨w.p3.temp.toInt, w.p3.duty.toNat⟩,
   ⟨w.p4.temp.toInt, w.p4.duty.toNat⟩, ⟨w.p5.temp.toInt, w.p5.duty.toNat⟩⟩

/-- A point clamped (R140 step 2). -/
def clampPoint (p : Point) : Point := ⟨clampInt (-400) 2000 p.t, min p.d 1000⟩

/-- A curve clamped (R140 step 2). -/
def clampCurve (c : Curve) : Curve :=
  ⟨clampPoint c.p1, clampPoint c.p2, clampPoint c.p3, clampPoint c.p4, clampPoint c.p5⟩

/-- The temperatures rise strictly (R140 step 3). -/
def risingCurve (c : Curve) : Bool := c.p1.t < c.p2.t && c.p2.t < c.p3.t && c.p3.t < c.p4.t && c.p4.t < c.p5.t

/-- FAN_CONFIG_SET (R140, R172). LIGHT_FF is read unsigned (DEDUCED, log entry 20). -/
def askFanConfig (p : Port) (fan : Byte) (floor ceiling : CurveWire) (lightFF : Half) (s : State) : State × Answer :=
  if p = .main then (s, maskedAnswer)
  else
    match fanOf fan with
    | none => (s, refuse .range)
    | some f =>
      let a := wireCurve floor
      let b := wireCurve ceiling
      let a' := clampCurve a
      let b' := clampCurve b
      let l' := min lightFF.toNat 500
      if risingCurve a' && risingCurve b' then
        ({ s with fan := { s.fan with
            curves := s.fan.curves.set f ⟨a', b'⟩, lightFF := if f = .fan0 then l' else s.fan.lightFF } },
          okFlags (clampedFlag (a' ≠ a || b' ≠ b || l' ≠ lightFF.toNat)))
      else (s, refuse .range)

/-- FAN_GET (R141). -/
def askFanGet (s : State) : State × Answer := (s, okData (fansD s))

/-- FAN_CLEAR on one fan (R139). -/
def clearFan (f : Fan) (s : State) : State := s.setFan f { s.fanRec f with fanFault := false, lowCount := 0 }

/-- FAN_CLEAR (R139). -/
def askFanClear (fan : Byte) (s : State) : State × Answer :=
  match clearFans fan with
  | none => (s, refuse .range)
  | some l => (l.foldl (fun t f => clearFan f t) s, okAnswer)

/-! ### Thermal (R149, R152 to R155) -/

/-- QUIET_SET (R153): a lowered duty starts an examination (R136). -/
def askQuiet (level priority : Byte) (s : State) : State × Answer :=
  match quietOf level, priorityOf priority with
  | some q, some c => (examineAfter s (setQuiet q c s), okAnswer)
  | _, _ => (s, refuse .range)

/-- The thresholds of one sensor as the payload gives them (R154). -/
def wireLimit (w : LimitWire) : Limit := ⟨w.warn.toInt, w.high.toInt, w.crit.toInt⟩

/-- The thresholds of one sensor clamped (R154 step 1). -/
def clampLimit (l : Limit) : Limit :=
  ⟨clampInt (-400) 2000 l.warn, clampInt (-400) 2000 l.high, clampInt (-400) 2000 l.crit⟩

/-- WARN below HIGH below CRIT, and CRIT at most 200 above WARN (R154 step 2). -/
def orderedLimit (l : Limit) : Bool := l.warn < l.high && l.high < l.crit && l.crit ≤ l.warn + 200

/-- THERMAL_LIMIT_SET (R154, R172). -/
def askLimits (p : Port) (w : LimitsWire) (s : State) : State × Answer :=
  if p = .main then (s, maskedAnswer)
  else
    let given := w.sensors.map wireLimit
    let taken := given.map clampLimit
    let h := clampInt 0 100 w.hyst.toInt
    if taken.toList.all orderedLimit then
      (setLimits taken h s, okFlags (clampedFlag (taken ≠ given || h ≠ w.hyst.toInt)))
    else (s, refuse .range)

/-- THERMAL_GET (R155). -/
def askThermalGet (s : State) : State × Answer := (s, okData (thermalD s.ths))

/-- LIGHT_DEMAND_SET (R152). The demand is read unsigned (DEDUCED, log entry 20). LSEN follows the enable flag also before
the first published set, where R142 has it deasserted (DEDUCED, log entry 62). The granted value and L of the reply are
two bytes each (DESIGN CHOICE, log entry 22). -/
def askLight (demand : Half) (enable : Byte) (s : State) : State × Answer :=
  match flagOf enable with
  | none => (s, refuse .range)
  | some e =>
    if s.ths.regime = .shutdown ∧ e = true then (s, refuse .thermal)
    else
      let d := min demand.toNat 1000
      let t := { s.ths with lightDemand := d, lightEnable := e, lsen := e }
      ({ s with ths := t },
        ⟨.ok, clampedFlag (d ≠ demand.toNat), [.u16 (grantedLight t), .u16 t.limit, .u8 (regimeCode t.regime)]⟩)

/-- The conditions of SHUTDOWN_CLEAR (R149): every used temperature below its WARN less the hysteresis, and FAN0's
FAN_FAULT clear. -/
def shutdownMayClear (s : State) : Bool :=
  match s.ths.used with
  | none => false
  | some u =>
    !someSensor u s.ths.limits (fun x y => y.warn - s.ths.hyst ≤ x.temp || x.faulted) && !s.fan.recs.fan0.fanFault

/-- The regime after SHUTDOWN_CLEAR: the raw level of the last published set (R149), by the limits and latches as they
stand (log entry 34). -/
def clearedRegime (s : State) : Regime :=
  match s.ths.used with
  | none => s.ths.raw
  | some u => rawLevel u s.ths.limits (fanLatches s)

/-- SHUTDOWN_CLEAR (R149). Its REGIME notice carries the raw level and the FAN_FAULT latches taken at the last scan (DESIGN
CHOICE, log entry 34). -/
def askShutdownClear (s : State) : State × Answer :=
  if s.ths.regime ≠ .shutdown then (s, okAnswer)
  else if shutdownMayClear s then
    let t := { s.ths with
      regime := clearedRegime s, causeCrit := PerThermo.all false, causeEmergency := false }
    let s1 := produce (regimeNotice .shutdown t) { s with ths := t }
    ((examineAfter s (publishRegime s1)).redraw, okAnswer)
  else (s, ⟨.state, noFlags, usedTempsD s.ths⟩)

/-! ### Focus (R163, R164) -/

/-- COMP_SET (R163, R172). The deadband is read unsigned (DEDUCED, log entry 20). -/
def askComp (p : Port) (enabled : Byte) (deadband : Half) (s : State) : State × Answer :=
  match flagOf enabled with
  | none => (s, refuse .range)
  | some e =>
    match p with
    | .main => ({ s with fcp := { s.fcp with enabled := e } }, maskedAnswer)
    | .service =>
      let d := clampNat 1 400 deadband.toNat
      ({ s with fcp := { s.fcp with enabled := e, deadband := d } }, okFlags (clampedFlag (d ≠ deadband.toNat)))

/-- COMP_GET (R164). -/
def askCompGet (s : State) : State × Answer := (s, okData (compD s))

end Sys2Proof.Machine
end

