-- ==== Sys2Proof/Machine/Parse.lean ====
section
/-! DEFINITION. How LNK reads a checked frame's KIND and payload (R169 steps 1 and 2, R171, R177): the code table of
R171 with its payload sizes and field orders. -/

namespace Sys2Proof.Machine
open Sys2Proof

/-- A payload read as two-byte fields; none for an odd number of bytes. -/
def halvesOf : List Byte → Option (List Half)
  | [] => some []
  | [_] => none
  | lo :: hi :: rest => (halvesOf rest).map fun hs => half lo hi :: hs

/-- A payload of no bytes. -/
def takeNone (kind : Byte) (r : Request) (p : List Byte) : Request :=
  match p with
  | [] => r
  | _ => .badLength kind

/-- A payload of one byte. -/
def takeByte (kind : Byte) (f : Byte → Request) (p : List Byte) : Request :=
  match p with
  | [b] => f b
  | _ => .badLength kind

/-- AXIS_MOVE and AXIS_JOG: axis, four bytes, speed class (6 bytes). -/
def takeMotion (kind : Byte) (f : Byte → Long → Byte → Request) (p : List Byte) : Request :=
  match p with
  | [a, b0, b1, b2, b3, c] => f a (long b0 b1 b2 b3) c
  | _ => .badLength kind

/-- AXIS_CONFIG_SET: axis and the settings record of R3 (28 bytes). -/
def takeAxisConfig (kind : Byte) (p : List Byte) : Request :=
  match p with
  | [a, n0, n1, n2, n3, x0, x1, x2, x3, r0, r1, r2, r3, u0, u1, h0, h1, c0, c1, c2, c3, st, ap, t0, t1, id, s0, s1] =>
    .axisConfigSet a ⟨long n0 n1 n2 n3, long x0 x1 x2 x3, long r0 r1 r2 r3, half u0 u1, half h0 h1,
      long c0 c1 c2 c3, st, ap, half t0 t1, id, half s0 s1⟩
  | _ => .badLength kind

/-- PRESET_STORE: slot, axis mask, include-geometry, then a label of up to 16 bytes (3 to 19 bytes). -/
def takePresetStore (kind : Byte) (p : List Byte) : Request :=
  match p with
  | slot :: mask :: geo :: label => if label.length ≤ 16 then .presetStore slot mask geo label else .badLength kind
  | _ => .badLength kind

/-- CORNER_SET: corner, dx, dy (5 bytes). -/
def takeCorner (kind : Byte) (p : List Byte) : Request :=
  match p with
  | [c, x0, x1, y0, y1] => .cornerSet c (half x0 x1) (half y0 y1)
  | _ => .badLength kind

/-- A curve of five points from ten two-byte fields. -/
def curveWire (h : List Half) : CurveWire :=
  let at' := fun i => h.getD i 0
  ⟨⟨at' 0, at' 1⟩, ⟨at' 2, at' 3⟩, ⟨at' 4, at' 5⟩, ⟨at' 6, at' 7⟩, ⟨at' 8, at' 9⟩⟩

/-- FAN_CONFIG_SET: fan, FLOOR curve, CEILING curve, LIGHT_FF (43 bytes). -/
def takeFanConfig (kind : Byte) (p : List Byte) : Request :=
  match p with
  | fan :: rest =>
    match halvesOf rest with
    | some hs =>
      if hs.length = 21 then .fanConfigSet fan (curveWire hs) (curveWire (hs.drop 10)) (hs.getD 20 0)
      else .badLength kind
    | none => .badLength kind
  | [] => .badLength kind

/-- The thresholds of sensor `i` in THERMAL_LIMIT_SET. -/
def limitWire (h : List Half) (i : Nat) : LimitWire :=
  ⟨h.getD (3 * i) 0, h.getD (3 * i + 1) 0, h.getD (3 * i + 2) 0⟩

/-- THERMAL_LIMIT_SET: WARN, HIGH and CRIT of the six sensors, and the hysteresis (38 bytes). -/
def takeLimits (kind : Byte) (p : List Byte) : Request :=
  match halvesOf p with
  | some hs =>
    if hs.length = 19 then
      .thermalLimitSet ⟨⟨limitWire hs 0, limitWire hs 1, limitWire hs 2, limitWire hs 3, limitWire hs 4, limitWire hs 5⟩,
        hs.getD 18 0⟩
    else .badLength kind
  | none => .badLength kind

/-- TABLE_SET: the table's name, then its entries; the size allowed depends on the table named (R177). -/
def takeTable (kind : Byte) (p : List Byte) : Request :=
  match p with
  | [] => .badLength kind
  | t :: rest =>
    match tableOf t with
    | none => .noTable
    | some id =>
      match halvesOf rest with
      | some hs => if hs.length = tableSize id then .tableSet t hs else .badLength kind
      | none => .badLength kind

/-- The request LNK reads in a checked frame: UNKNOWN for a KIND outside the code table of R171, a bad length for a
payload size the KIND does not allow, and otherwise the request with its fields. -/
def parseRequest (kind : Byte) (p : List Byte) : Request :=
  match kind.toNat with
  | 0x01 => takeNone kind .identGet p
  | 0x02 => takeNone kind .statusGet p
  | 0x03 => takeByte kind .alertMaskSet p
  | 0x04 => takeNone kind .alertClear p
  | 0x05 => takeByte kind .noticeMaskSet p
  | 0x06 => takeNone kind .reset p
  | 0x10 => takeMotion kind .axisMove p
  | 0x11 => takeMotion kind .axisJog p
  | 0x12 => takeByte kind .axisStop p
  | 0x13 => takeByte kind .axisHome p
  | 0x14 => takeAxisConfig kind p
  | 0x15 => takeByte kind .axisConfigGet p
  | 0x16 => takeByte kind .axisClear p
  | 0x17 => takeNone kind .brakeClear p
  | 0x18 => takeNone kind .calibrate p
  | 0x19 => takeByte kind .permitSet p
  | 0x1A => takeByte kind .brakeSet p
  | 0x20 => takePresetStore kind p
  | 0x21 => takeByte kind .presetRecall p
  | 0x22 => takeByte kind .presetGet p
  | 0x23 => takeByte kind .presetErase p
  | 0x24 => takeNone kind .historyBack p
  | 0x25 => takeByte kind .historyGet p
  | 0x28 => takeCorner kind p
  | 0x29 =>
    match p with
    | [m, v0, v1] => .keystoneSet m (half v0 v1)
    | _ => .badLength kind
  | 0x2A => takeByte kind .mountSet p
  | 0x2B => takeByte kind .warpModeSet p
  | 0x2C => takeNone kind .geometryGet p
  | 0x2D => takeNone kind .warpResend p
  | 0x30 => takeNone kind .sensorGet p
  | 0x31 => takeFanConfig kind p
  | 0x32 => takeNone kind .fanGet p
  | 0x33 => takeByte kind .fanClear p
  | 0x34 =>
    match p with
    | [q, c] => .quietSet q c
    | _ => .badLength kind
  | 0x35 => takeLimits kind p
  | 0x36 => takeNone kind .thermalGet p
  | 0x37 =>
    match p with
    | [d0, d1, e] => .lightDemandSet (half d0 d1) e
    | _ => .badLength kind
  | 0x38 => takeNone kind .shutdownClear p
  | 0x39 =>
    match p with
    | [e, d0, d1] => .compSet e (half d0 d1)
    | _ => .badLength kind
  | 0x3A => takeNone kind .compGet p
  | 0x3B => takeTable kind p
  | 0x3C => takeByte kind .tableGet p
  | 0x3D =>
    match p with
    | [b0, b1] => .budgetSet (half b0 b1)
    | _ => .badLength kind
  | 0x3E => takeNone kind .settingsSave p
  | 0x3F => takeNone kind .settingsDefault p
  | _ => .unknown kind

/-- A request given by its fields, as LNK reads it once its frame is checked: a TABLE_SET or PRESET_STORE of a size
the code table does not allow is answered by LNK itself (R169, R177). -/
def judgeRequest (r : Request) : Request :=
  match r with
  | .tableSet t entries =>
    match tableOf t with
    | none => .noTable
    | some id => if entries.length = tableSize id then r else .badLength 0x3B
  | .presetStore _ _ _ label => if label.length ≤ 16 then r else .badLength 0x20
  | _ => r

/-! ### The payload of a request (R169, R171): what a sender puts in the frame -/

/-- The two bytes of a field, least significant first. -/
def halfBytes (h : Half) : List Byte := [h.extractLsb' 0 8, h.extractLsb' 8 8]

/-- The four bytes of a field, least significant first. -/
def longBytes (l : Long) : List Byte :=
  [l.extractLsb' 0 8, l.extractLsb' 8 8, l.extractLsb' 16 8, l.extractLsb' 24 8]

/-- The ten fields of a curve (R131, R140). -/
def curveHalves (c : CurveWire) : List Half :=
  [c.p1.temp, c.p1.duty, c.p2.temp, c.p2.duty, c.p3.temp, c.p3.duty, c.p4.temp, c.p4.duty, c.p5.temp, c.p5.duty]

/-- The three thresholds of a sensor (R154). -/
def limitHalves (w : LimitWire) : List Half := [w.warn, w.high, w.crit]

/-- The payload of a request, in the field order of its row of R171's code table. The three requests that LNK answers
itself have none of their own. -/
def payloadOf (r : Request) : List Byte :=
  match r with
  | .identGet => []
  | .statusGet => []
  | .alertMaskSet m => [m]
  | .alertClear => []
  | .noticeMaskSet m => [m]
  | .reset => []
  | .axisMove a t c => a :: (longBytes t ++ [c])
  | .axisJog a n c => a :: (longBytes n ++ [c])
  | .axisStop a => [a]
  | .axisHome a => [a]
  | .axisConfigSet a w =>
    a :: (longBytes w.travelMin ++ longBytes w.travelMax ++ longBytes w.refPos ++ halfBytes w.run ++ halfBytes w.hold ++
      longBytes w.accel ++ [w.stall, w.approach] ++ halfBytes w.takeup ++ [w.idle] ++ halfBytes w.settle)
  | .axisConfigGet a => [a]
  | .axisClear a => [a]
  | .brakeClear => []
  | .calibrate => []
  | .permitSet m => [m]
  | .brakeSet x => [x]
  | .presetStore slot mask geometry label => slot :: mask :: geometry :: label
  | .presetRecall slot => [slot]
  | .presetGet slot => [slot]
  | .presetErase slot => [slot]
  | .historyBack => []
  | .historyGet i => [i]
  | .cornerSet c dx dy => c :: (halfBytes dx ++ halfBytes dy)
  | .keystoneSet m v => m :: halfBytes v
  | .mountSet m => [m]
  | .warpModeSet m => [m]
  | .geometryGet => []
  | .warpResend => []
  | .sensorGet => []
  | .fanConfigSet f a b l => f :: (curveHalves a ++ curveHalves b ++ [l]).flatMap halfBytes
  | .fanGet => []
  | .fanClear f => [f]
  | .quietSet q c => [q, c]
  | .thermalLimitSet w => (w.sensors.toList.flatMap limitHalves ++ [w.hyst]).flatMap halfBytes
  | .thermalGet => []
  | .lightDemandSet d e => halfBytes d ++ [e]
  | .shutdownClear => []
  | .compSet e d => e :: halfBytes d
  | .compGet => []
  | .tableSet t entries => t :: entries.flatMap halfBytes
  | .tableGet t => [t]
  | .budgetSet b => halfBytes b
  | .settingsSave => []
  | .settingsDefault => []
  | .unknown _ => []
  | .badLength _ => []
  | .noTable => []

/-- A request of the code table, with a payload size the table allows (R169, R171, R177). -/
def inCodeTable (r : Request) : Bool :=
  match r with
  | .presetStore _ _ _ label => label.length ≤ 16
  | .tableSet t entries =>
    match tableOf t with
    | some id => entries.length = tableSize id
    | none => false
  | .unknown _ => false
  | .badLength _ => false
  | .noTable => false
  | _ => true

end Sys2Proof.Machine
end

