-- ==== Sys2Proof/Machine/Link.lean ====
section
/-! DEFINITION. The message link (R167 to R170): delivery to the owners, serving, the slots, the receiver and the
transmitters, and the end of each event's handling. -/

namespace Sys2Proof.Machine
open Sys2Proof

/-! ### Delivery (R169) -/

/-- An owner's answer that is given at once. -/
def atOnce (x : State × Answer) : State × Option Answer := (x.1, some x.2)

/-- A request delivered to its owner with the port it came on, or answered by LNK itself (R169). No answer: the reply
follows a store write. -/
def deliver (p : Port) (r : Request) (s : State) : State × Option Answer :=
  match r with
  | .identGet => atOnce (askIdent s)
  | .statusGet => atOnce (askStatus p s)
  | .alertMaskSet m => atOnce (askAlertMask m s)
  | .alertClear => atOnce (askAlertClear s)
  | .noticeMaskSet m => atOnce (askNoticeMask p m s)
  | .reset => atOnce (askReset p s)
  | .axisMove a t c => atOnce (askMove p a t c s)
  | .axisJog a n c => atOnce (askJog p a n c s)
  | .axisStop a => atOnce (askStop a s)
  | .axisHome a => atOnce (askHome p a s)
  | .axisConfigSet a w => atOnce (askConfigSet p a w s)
  | .axisConfigGet a => atOnce (askConfigGet a s)
  | .axisClear a => atOnce (askClear a s)
  | .brakeClear => atOnce (askBrakeClear s)
  | .calibrate => atOnce (askCalibrate s)
  | .permitSet m => atOnce (askPermit p m s)
  | .brakeSet x => atOnce (askBrakeSet p x s)
  | .presetStore slot m g l => askPresetStore p slot m g l s
  | .presetRecall slot => atOnce (askRecall p slot s)
  | .presetGet slot => atOnce (askPresetGet slot s)
  | .presetErase slot => askPresetErase p slot s
  | .historyBack => atOnce (askBack p s)
  | .historyGet i => atOnce (askHistoryGet i s)
  | .cornerSet c dx dy => atOnce (askCorner p c dx dy s)
  | .keystoneSet m v => atOnce (askKeystone p m v s)
  | .mountSet m => atOnce (askMount p m s)
  | .warpModeSet m => atOnce (askWarpMode p m s)
  | .geometryGet => atOnce (askGeometryGet s)
  | .warpResend => atOnce (askResend s)
  | .sensorGet => atOnce (askSensorGet s)
  | .fanConfigSet f a b l => atOnce (askFanConfig p f a b l s)
  | .fanGet => atOnce (askFanGet s)
  | .fanClear f => atOnce (askFanClear f s)
  | .quietSet q c => atOnce (askQuiet q c s)
  | .thermalLimitSet w => atOnce (askLimits p w s)
  | .thermalGet => atOnce (askThermalGet s)
  | .lightDemandSet d e => atOnce (askLight d e s)
  | .shutdownClear => atOnce (askShutdownClear s)
  | .compSet e d => atOnce (askComp p e d s)
  | .compGet => atOnce (askCompGet s)
  | .tableSet t l => atOnce (askTableSet p t l s)
  | .tableGet t => atOnce (askTableGet t s)
  | .budgetSet b => atOnce (askBudget p b s)
  | .settingsSave => askSave p s
  | .settingsDefault => atOnce (askDefault p s)
  | .unknown _ => (s, some (refuse .unknown))
  | .badLength _ => (s, some (refuse .length))
  | .noTable => (s, some (refuse .range))

/-! ### Slots and replies (R168, R169, R170) -/

/-- The reply of an answer (R169). -/
def replyOf (f : Checked) (a : Answer) : Reply := ⟨kindOf f.req, f.tag, a.result, flagsFor a.result a.flags, a.data⟩

/-- A reply placed in reply ready, which frees the serving slot; while reply ready is full it waits in the slot
(R168). -/
def PortRec.placeReply (r : PortRec) (sv : Serving) (rep : Reply) : PortRec :=
  match r.replyReady with
  | none => { r with replyReady := some rep, serving := none }
  | some _ => { r with serving := some { sv with held := some rep } }

/-- A checked frame in the serving slot served (R169). -/
def serve (p : Port) (f : Checked) (s : State) : State :=
  let s1 := s.setPort p { s.port p with serving := some ⟨f, none⟩ }
  match deliver p f.req s1 with
  | (s2, some a) => s2.setPort p ((s2.port p).placeReply ⟨f, none⟩ (replyOf f a))
  | (s2, none) => s2

/-- A transmitter takes the next frame, and a reply that waits for reply ready is placed in it (R168, R170). -/
def PortRec.advance (hold : Bool) (r : PortRec) : PortRec :=
  let r1 := r.sendNext hold
  match r1.serving, r1.replyReady with
  | some sv, none =>
    (match sv.held with
    | some rep => { r1 with serving := none, replyReady := some rep }
    | none => r1)
  | _, _ => r1

/-- The port's transmitter and slots moved on. -/
def advancePort (p : Port) (s : State) : State := s.setPort p ((s.port p).advance (handling s p))

/-- The waiting frame moved into a free serving slot and served at once (R168). -/
def serveWaiting (p : Port) (s : State) : State :=
  match (s.port p).serving, (s.port p).waiting with
  | none, some f => serve p f (s.setPort p { s.port p with waiting := none })
  | _, _ => s

/-- One port brought to rest: at most the held reply and the waiting frame have a part in it. -/
def settlePort (p : Port) (s : State) : State :=
  advancePort p (serveWaiting p (advancePort p (advancePort p s)))

/-- The end of the handling of an event: the transmitters and slots of both ports, and the ALERT line (R168, R170,
R175). -/
def finish (s : State) : State := formAlert (settlePort .service (settlePort .main s))

/-- A checked frame (R168): it is served, waits, or is an overrun. -/
def takeChecked (p : Port) (f : Checked) (s : State) : State :=
  let r := s.port p
  match r.serving, r.waiting with
  | none, none => serve p f s
  | none, some _ =>
    let s' := serveWaiting p s
    s'.setPort p { s'.port p with waiting := some f }
  | some _, none => s.setPort p { r with waiting := some f }
  | some _, some _ =>
    let s' := s.setPort p { r with overruns := satSucc 65535 r.overruns, lastDiscard := .overrun }
    { s' with lnk := { s'.lnk with linkLatch := true } }

/-- A request that arrives as a checked frame on a port (R168, R169), with the end of its handling. -/
def arrive (p : Port) (tag : Byte) (r : Request) (s : State) : State := finish (takeChecked p ⟨tag, judgeRequest r⟩ s)

/-! ### The receiver (R167) -/

/-- A discarded frame (R167). -/
def discardFrame (p : Port) (why : Discard) (s : State) : State :=
  let r := s.port p
  let s' := s.setPort p { r with
    receiver := .hunt, badFrames := satSucc 65535 r.badFrames, lastDiscard := why }
  { s' with lnk := { s'.lnk with linkLatch := true } }

/-- The receiver of a port set. -/
def setReceiver (p : Port) (x : Receiver) (s : State) : State := s.setPort p { s.port p with receiver := x }

/-- The request of a frame body KIND, TAG, PAYLOAD. -/
def bodyRequest (body : List Byte) : Checked :=
  ⟨body.getD 1 0, parseRequest (body.getD 0 0) (body.drop 2)⟩

/-- A whole frame from LEN on, judged on its check (R167); a checked frame is taken by R168 and handled whole. -/
def judgeFrame (p : Port) (bytes : List Byte) (s : State) : State :=
  let n := bytes.length - 2
  let covered := bytes.take n
  if bytes.drop n = crcBytes covered then finish (takeChecked p (bodyRequest (covered.drop 1)) (setReceiver p .hunt s))
  else finish (discardFrame p .check s)

/-- One byte taken by the receiver of a port (R167). -/
def takeByteIn (p : Port) (s : State) (b : Byte) : State :=
  match (s.port p).receiver with
  | .hunt => if b = 0xD5 then setReceiver p (.inFrame []) s else s
  | .inFrame [] =>
    if b.toNat < 2 ∨ 250 < b.toNat then finish (discardFrame p .length s) else setReceiver p (.inFrame [b]) s
  | .inFrame (len :: rest) =>
    let bytes := len :: rest ++ [b]
    if bytes.length = len.toNat + 3 then judgeFrame p bytes s else setReceiver p (.inFrame bytes) s

end Sys2Proof.Machine
end

