-- ==== Sys2Proof/Machine/Events.lean ====
section
/-! DEFINITION. The meanings of the commands that are not requests: resets, start-up, frames, timers and pins. A timer's
command moves the clock to the moment that timer is set for (log entry 2); a command whose timer or condition is not
present changes nothing but brings the link to rest. -/

namespace Sys2Proof.Machine
open Sys2Proof

/-- The answer of every command: a next state, with the end of the event's handling (R168, R170, R175). -/
def done (s : State) : Host.Outcome State Fault Refusal := .next (finish s)

/-- A change of one axis record. -/
def mapAxis (a : Axis) (f : AxisRec → AxisRec) (s : State) : State := s.setAxis a (f (s.axis a))

/-! ### Resets and start-up (R183 to R185) -/

/-- POWER_ON_RESET (R183). -/
def execPowerOnReset (s : State) : Host.Outcome State Fault Refusal := done (powerReset .powerOn s)

/-- PIN_RESET (R183, R185). -/
def execPinReset (s : State) : Host.Outcome State Fault Refusal := done (powerReset .pin s)

/-- The soft reset must wait (R68, R181, R185): a store write runs, or the reply to RESET has not left. -/
def softHeld (s : State) : Bool :=
  s.sto.write.isSome ||
  (match s.lnk.arranged with
  | some x => !x.replyLeft
  | none => false)

/-- SOFT_RESET (R185). It is a step of its own, after the one that ends RESET's reply or the store write (DESIGN CHOICE,
log entry 68). -/
def execSoftReset (s : State) : Host.Outcome State Fault Refusal := done (if softHeld s then s else softReset s)

/-- START_UP_HOME (R184): the next home, asked for as if from SERVICE, once the window of step 7 of R183 has closed and
the first set is published (log entry 40). -/
def startHome (s : State) : State :=
  match s.start.stage with
  | .homing (a :: rest) none =>
    if s.start.windowClosed && s.ssc.published.isSome then
      let s1 := { s with start := { s.start with stage := .homing rest (some a) } }
      let x := askHome .service (BitVec.ofNat 8 (axisCode a)) s1
      if x.2.result = .accepted then x.1 else nextHome rest x.1
    else s
  | _ => s

/-- START_UP_HOME (R184). -/
def execStartUpHome (s : State) : Host.Outcome State Fault Refusal := done (startHome s)

/-- After a soft reset in EMERGENCY or SHUTDOWN the power-on recall is refused with THERMAL (R185), ahead of the other
checks of R71 (log entry 61). -/
def recallClosed (s : State) : Bool := s.start.kind = .soft && regimeClosed s.ths.regime

/-- START_UP_RECALL (R184, R185): the power-on preset slot recalled as if from SERVICE. -/
def startRecall (s : State) : State :=
  match s.start.stage, s.sto.powerOnSlot with
  | .askRecall, some n =>
    if recallClosed s then produceReady (.refused .thermal) s
    else
      let x := askRecall .service (BitVec.ofNat 8 n) { s with start := { s.start with stage := .awaitRecall } }
      if x.2.result = .accepted then x.1 else produceReady (.refused x.2.result) x.1
  | .askRecall, none => produceReady .none s
  | _, _ => s

/-- START_UP_RECALL (R184). -/
def execStartUpRecall (s : State) : Host.Outcome State Fault Refusal := done (startRecall s)

/-! ### Frames (R167, R168, R170) -/

/-- FRAME_RECEIVED (R167 to R169): the bytes taken one by one. -/
def execFrameReceived (p : Port) (bytes : List Byte) (s : State) : Host.Outcome State Fault Refusal :=
  done (bytes.foldl (takeByteIn p) s)

/-- FRAME_GAP_TIMEOUT (R167). -/
def execFrameGapTimeout (p : Port) (s : State) : Host.Outcome State Fault Refusal :=
  done (match (s.port p).receiver with
    | .hunt => s
    | .inFrame _ => discardFrame p .gap s)

/-- A frame has left a port while a soft reset is arranged: one fewer is ahead of RESET's reply, or it was that reply
(R185). -/
def Arranged.frameLeft (p : Port) (x : Arranged) : Arranged :=
  if x.port = p ∧ x.replyLeft = false then
    (if x.ahead = 0 then { x with replyLeft := true } else { x with ahead := x.ahead - 1 })
  else x

/-- The end of a transmission (R170, R185). -/
def transmitEnded (p : Port) (s : State) : State :=
  match (s.port p).transmitter with
  | none => s
  | some _ =>
    let s' := s.setPort p { s.port p with transmitter := none }
    { s' with lnk := { s'.lnk with arranged := s'.lnk.arranged.map (Arranged.frameLeft p) } }

/-- FRAME_TRANSMIT_END (R168, R170). The end of RESET's reply too frees the transmitter for the next frame, a reply or
the oldest notice, before SOFT_RESET empties the queue: R170 and R185 give no order of the two (DESIGN CHOICE, log entry
68). -/
def execFrameTransmitEnd (p : Port) (s : State) : Host.Outcome State Fault Refusal := done (transmitEnded p s)

/-! ### Store writes (R68, R181) -/

/-- A soft reset whose reply has left waits for the store write alone (R181, R185). -/
def resetWaits (s : State) : Bool :=
  match s.lnk.arranged with
  | some x => x.replyLeft
  | none => false

/-- The reply of a store write, placed unless a soft reset was waiting for the write (R68, R181). -/
def writeReply (p : Port) (s : State) : State :=
  if resetWaits s then s
  else
    match (s.port p).serving with
    | some sv => s.setPort p ((s.port p).placeReply sv (replyOf sv.frame okAnswer))
    | none => s

/-- PRESET_WRITE_END (R68). -/
def execPresetWriteEnd (s : State) : Host.Outcome State Fault Refusal :=
  done (match s.sto.write with
    | some (.preset p slot x) => writeReply p (presetWritten slot x s)
    | some (.save _ _) => s
    | none => s)

/-- SETTINGS_WRITE_END (R181). -/
def execSettingsWriteEnd (s : State) : Host.Outcome State Fault Refusal :=
  done (match s.sto.write with
    | some (.save p parts) => writeReply p (saveWritten parts s)
    | some (.preset _ _ _) => s
    | none => s)

/-! ### The rail (R54, R56, R59) -/

/-- GRANT_SPACING_EXPIRY (R54, R56). -/
def execGrantSpacingExpiry (s : State) : Host.Outcome State Fault Refusal :=
  done (if s.rlm.queue = [] then s else examine (advanceTo (spacingMoment s.rlm.grants) s))

/-- QUEUE_TIMEOUT (R10, R59). -/
def execQueueTimeout (a : Axis) (s : State) : Host.Outcome State Fault Refusal :=
  done (match s.rlm.request (.axis a) with
    | none => s
    | some q => examine (withdrawStart a .noBudget (advanceTo (q.since + 2000) s)))

/-! ### Motion (R11 to R20) -/

/-- An axis in MOVING or HOMING. -/
def inMotion (r : AxisRec) : Bool := r.state = .moving || r.state = .homing

/-- CRUISE_REACHED (R11, R13, R18); it acts on a leg too short to cruise too (DESIGN CHOICE, log entry 66). -/
def execCruiseReached (a : Axis) (s : State) : Host.Outcome State Fault Refusal :=
  let r := s.axis a
  done (if inMotion r && (r.profile = .accel || r.profile = .slowing) then mapAxis a reachCruise s else s)

/-- The present leg may reach its deceleration point: it speeds up, cruises or slows to a lower cruise toward a turn
point (R11). A search has none (R16). -/
def mayDecelerate (r : AxisRec) : Bool :=
  inMotion r && r.leg ≠ .search && r.leg ≠ .none && (r.profile = .accel || r.profile = .cruise || r.profile = .slowing)

/-- DECEL_POINT_REACHED (R11); in ACCEL it acts on a leg long enough to cruise too (DESIGN CHOICE, log entry 66). -/
def execDecelPointReached (a : Axis) (s : State) : Host.Outcome State Fault Refusal :=
  done (if mayDecelerate (s.axis a) then mapAxis a reachDecel s else s)

/-- LEG_AT_REST (R11 to R13, R15, R17, R20, R23, R24). -/
def execLegAtRest (a : Axis) (s : State) : Host.Outcome State Fault Refusal :=
  let r := s.axis a
  done (if inMotion r && r.profile = .decel then examineAfter s (legEnds a s) else s)

/-- SETTLE_EXPIRY (R20, R21). -/
def execSettleExpiry (a : Axis) (s : State) : Host.Outcome State Fault Refusal :=
  let r := s.axis a
  done (if r.state = .settling then examineAfter s (settleEnds a (advanceTo r.settleEnd s)) else s)

/-- An indicator is judged in CRUISE of MOVING at NORMAL or FAST (R18). -/
def judgesIndicator (r : AxisRec) : Bool := r.state = .moving && r.phase = .cruise && r.speedClass ≠ .slow

/-- LOAD_INDICATOR (R18, R19). -/
def takeIndicator (a : Axis) (v : Byte) (s : State) : State :=
  let r := s.axis a
  if judgesIndicator r then
    let n := if v.toNat < r.settings.stall then satSucc 4 r.lowLoad else 0
    let s' := s.setAxis a { r with lowLoad := n }
    if n = 4 then examineAfter s (faultAndForce a .stall .stall s') else s'
  else s

/-- LOAD_INDICATOR (R18, R19). -/
def execLoadIndicator (a : Axis) (v : Byte) (s : State) : Host.Outcome State Fault Refusal := done (takeIndicator a v s)

/-- The edge ends the search: the sensor goes inactive in a POS search, or active in a NEG search (R16). -/
def edgeEnds (r : AxisRec) (active : Bool) : Bool :=
  r.state = .homing && r.phase = .search && r.leg = .search &&
  (match r.dir with
  | .pos => !active
  | .neg => active)

/-- HOME_SENSOR_EDGE (R16, R17). -/
def execHomeSensorEdge (a : Axis) (active : Bool) (s : State) : Host.Outcome State Fault Refusal :=
  let s' := { s with refActive := s.refActive.set a active }
  done (if edgeEnds (s.axis a) active then mapAxis a meetEdge s' else s')

/-- HOME_SEARCH_LIMIT (R17). -/
def execHomeSearchLimit (a : Axis) (s : State) : Host.Outcome State Fault Refusal :=
  let r := s.axis a
  done (if r.state = .homing ∧ r.leg = .search then mapAxis a missEdge s else s)

/-! ### Drive channels (R29, R30, R33, R34) -/

/-- The fault of a channel told to its owner (R22, R44). -/
def tellOwner (c : Chan) (axisCause : AxisCause) (brakeCause : BrakeCause) (s : State) : State :=
  match ownerOf c with
  | some a => faultAndForce a axisCause .fault s
  | none => brakeFault brakeCause s

/-- The channels whose open-load checks expire together: those of the same owner with the same moment (R29). -/
def checksEnding (s : State) (c : Chan) (t : Nat) : List Chan :=
  allChans.filter fun d => ownerOf d = ownerOf c && (s.chan d).check = some t

/-- The end of an open-load check (R29). Where both checks of a pair fail, the FAULT notice of the lower channel is queued
first (DESIGN CHOICE, log entry 48). -/
def checkExpired (c : Chan) (s : State) : State :=
  match (s.chan c).check with
  | none => s
  | some t =>
    let s1 := (checksEnding s c t).foldl (fun x d => latchChan d .openLoad x) (advanceTo t s)
    examineAfter s (tellOwner c .openLoad .openLoad s1)

/-- OPEN_LOAD_CHECK_EXPIRY (R29). -/
def execOpenLoadCheckExpiry (c : Chan) (s : State) : Host.Outcome State Fault Refusal := done (checkExpired c s)

/-- A sensed current passes the open-load check: at least 25 % of the setpoint (R29). -/
def passesCheck (r : Channel) (current : Nat) : Bool :=
  r.check.isSome &&
  (match r.level with
  | some v => v ≤ 4 * current
  | none => false)

/-- OPEN_LOAD_CHECK_PASS (R29). -/
def execOpenLoadCheckPass (c : Chan) (current : Nat) (s : State) : Host.Outcome State Fault Refusal :=
  let r := s.chan c
  done (if passesCheck r current then s.setChan c { r.sense current with check := none } else s)

/-- OVERCURRENT_DETECTED (R30). -/
def execOvercurrentDetected (c : Chan) (current : Nat) (s : State) : Host.Outcome State Fault Refusal :=
  let r := s.chan c
  done (if r.level.isSome ∧ 1400 < current then
      examineAfter s (tellOwner c .overcurrent .overcurrent (latchChan c .overcurrent (s.setChan c (r.sense current))))
    else s)

/-- RAIL_LOW at the rail manager (R62): every request withdrawn, the entries but the fans' cleared, and the fans told. -/
def railLowRlm (s : State) : State :=
  let told := fun (r : FanRec) => { r with requestQueued := false }
  { s with
    rlm := { s.rlm with queue := [], axes := PerAxis.all 0, brake := 0 }
    brk := { s.brk with releaseQueued := false }
    fan := { s.fan with recs := ⟨told s.fan.recs.fan0, told s.fan.recs.fan1, told s.fan.recs.fan2⟩ } }

/-- RAIL_LOW begins (R34, R62). The FAULT notice is queued before those of the moves that end (DESIGN CHOICE, log
entry 59). -/
def railLowBegins (s : State) : State :=
  if s.drv.railLow then s
  else
    let s1 := produce (.fault (.railLow true)) { s with drv := { s.drv with railLow := true } }
    examine (fansSubmit (railLowRlm (blockFault .railLow .railLow s1)))

/-- RAIL_LOW_BEGIN (R34, R62). -/
def execRailLowBegin (s : State) : Host.Outcome State Fault Refusal := done (railLowBegins s)

/-- RAIL_LOW_END (R34). -/
def execRailLowEnd (s : State) : Host.Outcome State Fault Refusal :=
  done (if s.drv.railLow then produce (.fault (.railLow false)) { s with drv := { s.drv with railLow := false } } else s)

/-! ### Calibration (R36, R37) -/

/-- CALIBRATION_DUE_TIMER (R36): 30 minutes after the end of the previous run. -/
def execCalibrationDueTimer (s : State) : Host.Outcome State Fault Refusal :=
  done (if s.drv.due then s
    else
      let s' := advanceTo (s.drv.lastRun + 1800000) s
      openIfDue { s' with drv := { s'.drv with due := true } })

/-- CALIBRATION_WINDOW_OPEN (R36). -/
def execCalibrationWindowOpen (s : State) : Host.Outcome State Fault Refusal := done (openIfDue s)

/-- One channel at the end of the window: its offset stored, and CALIB latched with its notice when it fails (R37). -/
def calibrateChan (zeros : PerChan Int) (s : State) (c : Chan) : State :=
  let r := (s.chan c).calibrate (zeros.get c)
  let s' := s.setChan c r
  if r.offset < -48 ∨ 48 < r.offset then produce (.fault (.channel c .calib)) s' else s'

/-- A channel's stored offset fails the judgment (R37). -/
def offsetFails (s : State) (c : Chan) : Bool := (s.chan c).offset < -48 || 48 < (s.chan c).offset

/-- An axis one of whose channels failed (R22). -/
def calibAxis (s : State) (a : Axis) : State :=
  if offsetFails s (chansOf a).1 || offsetFails s (chansOf a).2 then faultAxis a .calib .fault s else s

/-- The failed owners told at the end of the window (R22, R37, R43, R44): the axes, the forced engage, then the brake
(log entry 48). -/
def calibOwners (s : State) : State :=
  let shift : Bool := [Chan.ch0, .ch1, .ch2, .ch3].any (offsetFails s)
  let s1 := allAxes.foldl calibAxis s
  let s2 := if shift then forceEngage s1 else s1
  if offsetFails s .ch8 then brakeFault .calib s2 else s2

/-- The window closed (R37), the start-up window among them (R183 step 7). -/
def closeWindow (s : State) : State :=
  { s with
    drv := { s.drv with
      window := none, due := false, lastRun := s.now, calibrateDone := s.drv.calibrateDone || s.drv.requested
      requested := false }
    start := { s.start with windowClosed := true } }

/-- The end of the calibration window (R37, R57). -/
def windowEnds (zeros : PerChan Int) (s : State) : State :=
  match s.drv.window with
  | none => s
  | some t => examine (closeWindow (calibOwners (allChans.foldl (calibrateChan zeros) (advanceTo t s))))

/-- CALIBRATION_WINDOW_CLOSE (R37, R57). -/
def execCalibrationWindowClose (zeros : PerChan Int) (s : State) : Host.Outcome State Fault Refusal :=
  done (windowEnds zeros s)

/-! ### The brake (R41, R42, R44) -/

/-- The setpoint CH8 is driven at. -/
def solenoidSetpoint (s : State) : Nat := (s.chan .ch8).level.getD 0

/-- BRAKE_HIT_REACHED (R28, R41): the sensed current has come to within 5 % of HIT. -/
def execBrakeHitReached (current : Nat) (s : State) : Host.Outcome State Fault Refusal :=
  done (if s.brk.state = .releasing ∧ 19 * solenoidSetpoint s ≤ 20 * current then
      let s' := s.setChan .ch8 ((s.chan .ch8).sense current)
      { s' with brk := { s'.brk with hitReached := true } }
    else s)

/-- BRAKE_DIP_SEEN (R41): a fall of at least one eighth of HIT below the highest value seen. -/
def execBrakeDipSeen (peak current : Nat) (s : State) : Host.Outcome State Fault Refusal :=
  done (if s.brk.state = .releasing ∧ 8 * current + solenoidSetpoint s ≤ 8 * peak then
      let s' := s.setChan .ch8 ((s.chan .ch8).sense current)
      { s' with brk := { s'.brk with dipSeen := true } }
    else s)

/-- HIT_TIME_EXPIRY (R41). -/
def execHitTimeExpiry (s : State) : Host.Outcome State Fault Refusal :=
  done (if s.brk.state = .releasing then examineAfter s (judgeRelease (advanceTo (s.brk.timer.getD s.now) s)) else s)

/-- ENGAGE_TIME_EXPIRY (R40, R42). -/
def execEngageTimeExpiry (s : State) : Host.Outcome State Fault Refusal :=
  done (if s.brk.state = .engaging then examineAfter s (engageEnds (advanceTo (s.brk.timer.getD s.now) s)) else s)

/-- CLAMP_PENDING_EXPIRY (R44). -/
def execClampPendingExpiry (s : State) : Host.Outcome State Fault Refusal :=
  done (if s.brk.state = .faulted ∧ s.brk.clampPending then
      examineAfter s (clampEnds (advanceTo (s.brk.timer.getD s.now) s))
    else s)

/-! ### Scans, periods and fans (R115, R128 to R130, R138, R159, R160) -/

/-- An action with the examination it may start. -/
def thenExamine (f : State → State) (s : State) : State := examineAfter s (f s)

/-- GEO at the end of a scan (R87, R93). -/
def keystoneScan (s : State) : State := handIfChanged (autoKeystone s)

/-- The end of a scan (R115): the set is published, the orientation record judged, and the readers DRV, GEO, THS and
FCP take the set in an order that is not fixed. -/
def scanEnds (codes : PerSensor Code12) (s : State) : State :=
  let s1 := orient (scanSet codes (advanceTo s.ssc.nextScan s))
  (inSomeOrder ([driverHotScan, keystoneScan, thermalScan, formOffset].map thenExamine) s1).redraw

/-- SCAN_END (R115). -/
def execScanEnd (codes : PerSensor Code12) (s : State) : Host.Outcome State Fault Refusal := done (scanEnds codes s)

/-- A compensation move asked of AXC (R160). -/
def startComp (s : State) : State :=
  match motionCheck s .foc .absolute with
  | some _ => s
  | none =>
    takeMove .foc .comp (compTarget s) .normal
      { s with fcp := { s.fcp with moveActive := true, lastStart := some s.now } }

/-- FCP's consideration of a compensation move (R159). -/
def considerComp (s : State) : State := if compHold s = .none then startComp s else s

/-- The expiry of the control-period timer (R130, R159): the three fans and FCP act on it in an order that is not
fixed, each report and start seeing what the others left (R63). -/
def periodEnds (s : State) : State :=
  let s1 := advanceTo s.fan.nextPeriod s
  let s2 := notePeriod { s1 with fan := { s1.fan with nextPeriod := s1.fan.nextPeriod + 1000 } }
  (inSomeOrder ([fanPeriod .fan0, fanPeriod .fan1, fanPeriod .fan2, considerComp].map thenExamine) s2).redraw

/-- CONTROL_PERIOD (R130, R159). -/
def execControlPeriod (s : State) : Host.Outcome State Fault Refusal := done (periodEnds s)

/-- TACH_PULSE (R138). -/
def execTachPulse (f : Fan) (s : State) : Host.Outcome State Fault Refusal :=
  done (s.setFan f { s.fanRec f with pulses := (s.fanRec f).pulses + 1 })

/-- SPINUP_EXPIRY (R129, R63). -/
def execSpinupExpiry (f : Fan) (s : State) : Host.Outcome State Fault Refusal :=
  let r := s.fanRec f
  done (if r.state = .spinup then examineAfter s (spinupEnds f (advanceTo (r.spinTimer.getD s.now) s)) else s)

/-! ### The warp link (R108 to R110) -/

/-- WARP_ACKNOWLEDGE (R108, R109). -/
def execWarpAcknowledge (s : State) : Host.Outcome State Fault Refusal := done (acknowledge s)

/-- ACKNOWLEDGE_TIMEOUT (R110). -/
def execAcknowledgeTimeout (s : State) : Host.Outcome State Fault Refusal :=
  done (if s.wrp.link = .posted then ackExpired (advanceTo (s.wrp.ackTimer.getD s.now) s) else s)

end Sys2Proof.Machine
end

