-- ==== Sys2Proof/Machine/Requests.lean ====
section
/-! DEFINITION. The meanings of the request rows: a checked frame with the request arrives on a port (R168, R169), its
owner judges it, and the event's handling ends (log entry 4). -/

namespace Sys2Proof.Machine
open Sys2Proof

/-- A request row's answer: the next state after the frame's arrival. -/
def request (p : Port) (tag : Byte) (r : Request) (s : State) : Host.Outcome State Fault Refusal := .next (arrive p tag r s)

/-- IDENT_GET (R179). -/
def execIdentGet (port : Port) (tag : Byte) (s : State) :
    Host.Outcome State Fault Refusal := request port tag .identGet s

/-- STATUS_GET (R178). -/
def execStatusGet (port : Port) (tag : Byte) (s : State) :
    Host.Outcome State Fault Refusal := request port tag .statusGet s

/-- ALERT_MASK_SET (R175). -/
def execAlertMaskSet (port : Port) (tag : Byte) (mask : Byte) (s : State) :
    Host.Outcome State Fault Refusal := request port tag (.alertMaskSet mask) s

/-- ALERT_CLEAR (R176). -/
def execAlertClear (port : Port) (tag : Byte) (s : State) :
    Host.Outcome State Fault Refusal := request port tag .alertClear s

/-- NOTICE_MASK_SET (R174). -/
def execNoticeMaskSet (port : Port) (tag : Byte) (mask : Byte) (s : State) :
    Host.Outcome State Fault Refusal := request port tag (.noticeMaskSet mask) s

/-- RESET (R185). -/
def execReset (port : Port) (tag : Byte) (s : State) :
    Host.Outcome State Fault Refusal := request port tag .reset s

/-- AXIS_MOVE (R6). -/
def execAxisMove (port : Port) (tag : Byte) (axis : Byte) (target : Long) (speed : Byte) (s : State) :
    Host.Outcome State Fault Refusal := request port tag (.axisMove axis target speed) s

/-- AXIS_JOG (R6). -/
def execAxisJog (port : Port) (tag : Byte) (axis : Byte) (count : Long) (speed : Byte) (s : State) :
    Host.Outcome State Fault Refusal := request port tag (.axisJog axis count speed) s

/-- AXIS_STOP (R15). -/
def execAxisStop (port : Port) (tag : Byte) (axis : Byte) (s : State) :
    Host.Outcome State Fault Refusal := request port tag (.axisStop axis) s

/-- AXIS_HOME (R16). -/
def execAxisHome (port : Port) (tag : Byte) (axis : Byte) (s : State) :
    Host.Outcome State Fault Refusal := request port tag (.axisHome axis) s

/-- AXIS_CONFIG_SET (R3). -/
def execAxisConfigSet (port : Port) (tag : Byte) (axis : Byte) (cfg : AxisConfigWire) (s : State) :
    Host.Outcome State Fault Refusal := request port tag (.axisConfigSet axis cfg) s

/-- AXIS_CONFIG_GET (R4). -/
def execAxisConfigGet (port : Port) (tag : Byte) (axis : Byte) (s : State) :
    Host.Outcome State Fault Refusal := request port tag (.axisConfigGet axis) s

/-- AXIS_CLEAR (R26). -/
def execAxisClear (port : Port) (tag : Byte) (axis : Byte) (s : State) :
    Host.Outcome State Fault Refusal := request port tag (.axisClear axis) s

/-- BRAKE_CLEAR (R45). -/
def execBrakeClear (port : Port) (tag : Byte) (s : State) :
    Host.Outcome State Fault Refusal := request port tag .brakeClear s

/-- CALIBRATE (R38). -/
def execCalibrate (port : Port) (tag : Byte) (s : State) :
    Host.Outcome State Fault Refusal := request port tag .calibrate s

/-- PERMIT_SET (R173). -/
def execPermitSet (port : Port) (tag : Byte) (map : Byte) (s : State) :
    Host.Outcome State Fault Refusal := request port tag (.permitSet map) s

/-- BRAKE_SET (R46). -/
def execBrakeSet (port : Port) (tag : Byte) (action : Byte) (s : State) :
    Host.Outcome State Fault Refusal := request port tag (.brakeSet action) s

/-- PRESET_STORE (R67). -/
def execPresetStore (port : Port) (tag : Byte) (slot : Byte) (mask : Byte) (geometry : Byte) (label : List Byte) (s : State) :
    Host.Outcome State Fault Refusal := request port tag (.presetStore slot mask geometry label) s

/-- PRESET_RECALL (R71). -/
def execPresetRecall (port : Port) (tag : Byte) (slot : Byte) (s : State) :
    Host.Outcome State Fault Refusal := request port tag (.presetRecall slot) s

/-- PRESET_GET (R69). -/
def execPresetGet (port : Port) (tag : Byte) (slot : Byte) (s : State) :
    Host.Outcome State Fault Refusal := request port tag (.presetGet slot) s

/-- PRESET_ERASE (R68). -/
def execPresetErase (port : Port) (tag : Byte) (slot : Byte) (s : State) :
    Host.Outcome State Fault Refusal := request port tag (.presetErase slot) s

/-- HISTORY_BACK (R80). -/
def execHistoryBack (port : Port) (tag : Byte) (s : State) :
    Host.Outcome State Fault Refusal := request port tag .historyBack s

/-- HISTORY_GET (R81). -/
def execHistoryGet (port : Port) (tag : Byte) (index : Byte) (s : State) :
    Host.Outcome State Fault Refusal := request port tag (.historyGet index) s

/-- CORNER_SET (R88). -/
def execCornerSet (port : Port) (tag : Byte) (corner : Byte) (dx : Half) (dy : Half) (s : State) :
    Host.Outcome State Fault Refusal := request port tag (.cornerSet corner dx dy) s

/-- KEYSTONE_SET (R89). -/
def execKeystoneSet (port : Port) (tag : Byte) (mode : Byte) (v : Half) (s : State) :
    Host.Outcome State Fault Refusal := request port tag (.keystoneSet mode v) s

/-- MOUNT_SET (R90). -/
def execMountSet (port : Port) (tag : Byte) (mode : Byte) (s : State) :
    Host.Outcome State Fault Refusal := request port tag (.mountSet mode) s

/-- WARP_MODE_SET (R91). -/
def execWarpModeSet (port : Port) (tag : Byte) (mode : Byte) (s : State) :
    Host.Outcome State Fault Refusal := request port tag (.warpModeSet mode) s

/-- GEOMETRY_GET (R113). -/
def execGeometryGet (port : Port) (tag : Byte) (s : State) :
    Host.Outcome State Fault Refusal := request port tag .geometryGet s

/-- WARP_RESEND (R111). -/
def execWarpResend (port : Port) (tag : Byte) (s : State) :
    Host.Outcome State Fault Refusal := request port tag .warpResend s

/-- SENSOR_GET (R127). -/
def execSensorGet (port : Port) (tag : Byte) (s : State) :
    Host.Outcome State Fault Refusal := request port tag .sensorGet s

/-- FAN_CONFIG_SET (R140). -/
def execFanConfigSet (port : Port) (tag : Byte) (fan : Byte) (floor : CurveWire) (ceiling : CurveWire) (lightFF : Half) (s : State) :
    Host.Outcome State Fault Refusal := request port tag (.fanConfigSet fan floor ceiling lightFF) s

/-- FAN_GET (R141). -/
def execFanGet (port : Port) (tag : Byte) (s : State) :
    Host.Outcome State Fault Refusal := request port tag .fanGet s

/-- FAN_CLEAR (R139). -/
def execFanClear (port : Port) (tag : Byte) (fan : Byte) (s : State) :
    Host.Outcome State Fault Refusal := request port tag (.fanClear fan) s

/-- QUIET_SET (R153). -/
def execQuietSet (port : Port) (tag : Byte) (level : Byte) (priority : Byte) (s : State) :
    Host.Outcome State Fault Refusal := request port tag (.quietSet level priority) s

/-- THERMAL_LIMIT_SET (R154). -/
def execThermalLimitSet (port : Port) (tag : Byte) (limits : LimitsWire) (s : State) :
    Host.Outcome State Fault Refusal := request port tag (.thermalLimitSet limits) s

/-- THERMAL_GET (R155). -/
def execThermalGet (port : Port) (tag : Byte) (s : State) :
    Host.Outcome State Fault Refusal := request port tag .thermalGet s

/-- LIGHT_DEMAND_SET (R152). -/
def execLightDemandSet (port : Port) (tag : Byte) (demand : Half) (enable : Byte) (s : State) :
    Host.Outcome State Fault Refusal := request port tag (.lightDemandSet demand enable) s

/-- SHUTDOWN_CLEAR (R149). -/
def execShutdownClear (port : Port) (tag : Byte) (s : State) :
    Host.Outcome State Fault Refusal := request port tag .shutdownClear s

/-- COMP_SET (R163). -/
def execCompSet (port : Port) (tag : Byte) (enabled : Byte) (deadband : Half) (s : State) :
    Host.Outcome State Fault Refusal := request port tag (.compSet enabled deadband) s

/-- COMP_GET (R164). -/
def execCompGet (port : Port) (tag : Byte) (s : State) :
    Host.Outcome State Fault Refusal := request port tag .compGet s

/-- TABLE_SET (R177). -/
def execTableSet (port : Port) (tag : Byte) (table : Byte) (entries : List Half) (s : State) :
    Host.Outcome State Fault Refusal := request port tag (.tableSet table entries) s

/-- TABLE_GET (R177). -/
def execTableGet (port : Port) (tag : Byte) (table : Byte) (s : State) :
    Host.Outcome State Fault Refusal := request port tag (.tableGet table) s

/-- BUDGET_SET (R49). -/
def execBudgetSet (port : Port) (tag : Byte) (budget : Half) (s : State) :
    Host.Outcome State Fault Refusal := request port tag (.budgetSet budget) s

/-- SETTINGS_SAVE (R181). -/
def execSettingsSave (port : Port) (tag : Byte) (s : State) :
    Host.Outcome State Fault Refusal := request port tag .settingsSave s

/-- SETTINGS_DEFAULT (R182). -/
def execSettingsDefault (port : Port) (tag : Byte) (s : State) :
    Host.Outcome State Fault Refusal := request port tag .settingsDefault s

end Sys2Proof.Machine
end

