-- ==== Sys2Proof/Machine/Dispatch.lean ====
section
/-! DEFINITION. The dispatch: one arm for each row of spec/opcode_table.json. -/

namespace Sys2Proof.Machine
open Sys2Proof

def exec (i : Instr) (s : State) : Host.Outcome State Fault Refusal :=
  match i with
  | .powerOnReset => Sys2Proof.Machine.execPowerOnReset s
  | .pinReset => Sys2Proof.Machine.execPinReset s
  | .softReset => Sys2Proof.Machine.execSoftReset s
  | .startUpHome => Sys2Proof.Machine.execStartUpHome s
  | .startUpRecall => Sys2Proof.Machine.execStartUpRecall s
  | .frameReceived port bytes => Sys2Proof.Machine.execFrameReceived port bytes s
  | .frameGapTimeout port => Sys2Proof.Machine.execFrameGapTimeout port s
  | .frameTransmitEnd port => Sys2Proof.Machine.execFrameTransmitEnd port s
  | .identGet port tag => Sys2Proof.Machine.execIdentGet port tag s
  | .statusGet port tag => Sys2Proof.Machine.execStatusGet port tag s
  | .alertMaskSet port tag mask => Sys2Proof.Machine.execAlertMaskSet port tag mask s
  | .alertClear port tag => Sys2Proof.Machine.execAlertClear port tag s
  | .noticeMaskSet port tag mask => Sys2Proof.Machine.execNoticeMaskSet port tag mask s
  | .reset port tag => Sys2Proof.Machine.execReset port tag s
  | .axisMove port tag axis target speed => Sys2Proof.Machine.execAxisMove port tag axis target speed s
  | .axisJog port tag axis count speed => Sys2Proof.Machine.execAxisJog port tag axis count speed s
  | .axisStop port tag axis => Sys2Proof.Machine.execAxisStop port tag axis s
  | .axisHome port tag axis => Sys2Proof.Machine.execAxisHome port tag axis s
  | .axisConfigSet port tag axis cfg => Sys2Proof.Machine.execAxisConfigSet port tag axis cfg s
  | .axisConfigGet port tag axis => Sys2Proof.Machine.execAxisConfigGet port tag axis s
  | .axisClear port tag axis => Sys2Proof.Machine.execAxisClear port tag axis s
  | .brakeClear port tag => Sys2Proof.Machine.execBrakeClear port tag s
  | .calibrate port tag => Sys2Proof.Machine.execCalibrate port tag s
  | .permitSet port tag map => Sys2Proof.Machine.execPermitSet port tag map s
  | .brakeSet port tag action => Sys2Proof.Machine.execBrakeSet port tag action s
  | .presetStore port tag slot mask geometry label => Sys2Proof.Machine.execPresetStore port tag slot mask geometry label s
  | .presetRecall port tag slot => Sys2Proof.Machine.execPresetRecall port tag slot s
  | .presetGet port tag slot => Sys2Proof.Machine.execPresetGet port tag slot s
  | .presetErase port tag slot => Sys2Proof.Machine.execPresetErase port tag slot s
  | .historyBack port tag => Sys2Proof.Machine.execHistoryBack port tag s
  | .historyGet port tag index => Sys2Proof.Machine.execHistoryGet port tag index s
  | .cornerSet port tag corner dx dy => Sys2Proof.Machine.execCornerSet port tag corner dx dy s
  | .keystoneSet port tag mode v => Sys2Proof.Machine.execKeystoneSet port tag mode v s
  | .mountSet port tag mode => Sys2Proof.Machine.execMountSet port tag mode s
  | .warpModeSet port tag mode => Sys2Proof.Machine.execWarpModeSet port tag mode s
  | .geometryGet port tag => Sys2Proof.Machine.execGeometryGet port tag s
  | .warpResend port tag => Sys2Proof.Machine.execWarpResend port tag s
  | .sensorGet port tag => Sys2Proof.Machine.execSensorGet port tag s
  | .fanConfigSet port tag fan floor ceiling lightFF => Sys2Proof.Machine.execFanConfigSet port tag fan floor ceiling lightFF s
  | .fanGet port tag => Sys2Proof.Machine.execFanGet port tag s
  | .fanClear port tag fan => Sys2Proof.Machine.execFanClear port tag fan s
  | .quietSet port tag level priority => Sys2Proof.Machine.execQuietSet port tag level priority s
  | .thermalLimitSet port tag limits => Sys2Proof.Machine.execThermalLimitSet port tag limits s
  | .thermalGet port tag => Sys2Proof.Machine.execThermalGet port tag s
  | .lightDemandSet port tag demand enable => Sys2Proof.Machine.execLightDemandSet port tag demand enable s
  | .shutdownClear port tag => Sys2Proof.Machine.execShutdownClear port tag s
  | .compSet port tag enabled deadband => Sys2Proof.Machine.execCompSet port tag enabled deadband s
  | .compGet port tag => Sys2Proof.Machine.execCompGet port tag s
  | .tableSet port tag table entries => Sys2Proof.Machine.execTableSet port tag table entries s
  | .tableGet port tag table => Sys2Proof.Machine.execTableGet port tag table s
  | .budgetSet port tag budget => Sys2Proof.Machine.execBudgetSet port tag budget s
  | .settingsSave port tag => Sys2Proof.Machine.execSettingsSave port tag s
  | .settingsDefault port tag => Sys2Proof.Machine.execSettingsDefault port tag s
  | .presetWriteEnd => Sys2Proof.Machine.execPresetWriteEnd s
  | .settingsWriteEnd => Sys2Proof.Machine.execSettingsWriteEnd s
  | .grantSpacingExpiry => Sys2Proof.Machine.execGrantSpacingExpiry s
  | .queueTimeout axis => Sys2Proof.Machine.execQueueTimeout axis s
  | .cruiseReached axis => Sys2Proof.Machine.execCruiseReached axis s
  | .decelPointReached axis => Sys2Proof.Machine.execDecelPointReached axis s
  | .legAtRest axis => Sys2Proof.Machine.execLegAtRest axis s
  | .settleExpiry axis => Sys2Proof.Machine.execSettleExpiry axis s
  | .loadIndicator axis value => Sys2Proof.Machine.execLoadIndicator axis value s
  | .homeSensorEdge axis active => Sys2Proof.Machine.execHomeSensorEdge axis active s
  | .homeSearchLimit axis => Sys2Proof.Machine.execHomeSearchLimit axis s
  | .openLoadCheckExpiry chan => Sys2Proof.Machine.execOpenLoadCheckExpiry chan s
  | .openLoadCheckPass chan current => Sys2Proof.Machine.execOpenLoadCheckPass chan current s
  | .overcurrentDetected chan current => Sys2Proof.Machine.execOvercurrentDetected chan current s
  | .brakeHitReached current => Sys2Proof.Machine.execBrakeHitReached current s
  | .brakeDipSeen peak current => Sys2Proof.Machine.execBrakeDipSeen peak current s
  | .hitTimeExpiry => Sys2Proof.Machine.execHitTimeExpiry s
  | .engageTimeExpiry => Sys2Proof.Machine.execEngageTimeExpiry s
  | .clampPendingExpiry => Sys2Proof.Machine.execClampPendingExpiry s
  | .railLowBegin => Sys2Proof.Machine.execRailLowBegin s
  | .railLowEnd => Sys2Proof.Machine.execRailLowEnd s
  | .calibrationDueTimer => Sys2Proof.Machine.execCalibrationDueTimer s
  | .calibrationWindowOpen => Sys2Proof.Machine.execCalibrationWindowOpen s
  | .calibrationWindowClose zeros => Sys2Proof.Machine.execCalibrationWindowClose zeros s
  | .scanEnd codes => Sys2Proof.Machine.execScanEnd codes s
  | .controlPeriod => Sys2Proof.Machine.execControlPeriod s
  | .tachPulse fan => Sys2Proof.Machine.execTachPulse fan s
  | .spinupExpiry fan => Sys2Proof.Machine.execSpinupExpiry fan s
  | .warpAcknowledge => Sys2Proof.Machine.execWarpAcknowledge s
  | .acknowledgeTimeout => Sys2Proof.Machine.execAcknowledgeTimeout s

end Sys2Proof.Machine
end

