-- ==== Sys2Proof/Machine/Tick.lean ====
section
/-! DEFINITION. The passing of time on an empty queue (log entry 1). -/

namespace Sys2Proof.Machine
open Sys2Proof

/-- One millisecond passes: the clock counts, and each axis in motion moves on along its leg (R11). No timer acts by
itself: its command does. -/
def tick (s : State) : State := advanceTo (s.now + 1) s

end Sys2Proof.Machine
end

