-- ==== Sys2Proof/Safety.lean ====
section
/-! DEFINITION. What holds in a sound state of the part, one predicate per promise of the manual, and the words the
statements use for a link at rest and for the answer to a request. -/

namespace Sys2Proof.Machine
open Sys2Proof

/-! ### Promises about the whole machine -/

/-- The rail is never promised twice: the entries stay within the budget (R47, R54). -/
abbrev RailSound (s : State) : Prop := s.rlm.sum ≤ s.rlm.budget

/-- One start request per consumer (R51). -/
abbrev OneRequestEach (s : State) : Prop := (s.rlm.queue.map fun q => q.requester).Nodup

/-- The ALERT line is what the classes standing and the ALERT mask make it (R175). -/
abbrev AlertFormed (s : State) : Prop := s.lnk.alert = alertDriven s

/-- The history stack, its counter and the preset tables keep their sizes (R65, R78). -/
abbrev LensMemoryShape (s : State) : Prop :=
  s.lmm.history.length ≤ 8 ∧ s.lmm.discards ≤ 65535 ∧ s.lmm.presets.length = 12 ∧ s.sto.image.presets.length = 12

/-- A notice queue holds at most eight notices (R165, R174). -/
abbrev NoticeRoom (s : State) : Prop := s.lnk.main.queue.length ≤ 8 ∧ s.lnk.service.queue.length ≤ 8

/-- The live record and the staged geometry pass the acceptance test, and the effective quad is the live record's
(R83, R84, R86, R97). -/
def GeometryAccepted (s : State) : Prop :=
  judgeQuad (quadOf s.geo.live.geom) = none ∧ s.geo.quad = quadOf s.geo.live.geom ∧
  s.geo.permille = (permilleOf s.geo.quad).toNat ∧ ∀ g, s.lmm.staged = some g → judgeQuad (quadOf g) = none

/-- The acknowledge timer runs in POSTED alone, a warp is sent then, and a warp is pending in POSTED alone (R99, R106,
R107). -/
abbrev WarpLinkShape (s : State) : Prop :=
  (s.wrp.link = .posted ↔ s.wrp.ackTimer.isSome = true) ∧ (s.wrp.link = .posted → s.wrp.sent.isSome = true) ∧
  (s.wrp.pending.isSome = true → s.wrp.link = .posted)

/-- LSEN follows the enable flag, and is deasserted in SHUTDOWN (R148, R152). -/
abbrev LightGuarded (s : State) : Prop :=
  s.ths.lsen = s.ths.lightEnable ∧ (s.ths.regime = .shutdown → s.ths.lsen = false)

/-- The light-source limit is the one of the regime, the priority and the excess, and lies within 50 of the last
notified value (R150, R151). -/
abbrev LimitFormed (s : State) : Prop :=
  s.ths.excess = excessOf s.ths ∧ s.ths.limit = limitOf s.ths.regime s.ths.priority s.ths.excess ∧
  apart s.ths.limit s.ths.notified < 50

/-- A limit table with its thresholds in order and a hysteresis in range (R154). -/
abbrev tableOrdered (l : PerThermo Limit) (hyst : Int) : Prop :=
  (∀ x ∈ l.toList, x.warn < x.high ∧ x.high < x.crit ∧ x.crit ≤ x.warn + 200) ∧ 0 ≤ hyst ∧ hyst ≤ 100

/-- The parts a SETTINGS_SAVE write in progress will store, if one runs. -/
def savingParts (s : State) : Option SavedParts :=
  match s.sto.write with
  | some (.save _ parts) => some parts
  | some (.preset _ _ _) => none
  | none => none

/-- The limit table in force, the stored one and the one being saved are in order (R143, R154, R181). -/
def LimitsOrdered (s : State) : Prop :=
  tableOrdered s.ths.limits s.ths.hyst ∧
  tableOrdered s.sto.image.parts.settings.limits s.sto.image.parts.settings.hyst ∧
  ∀ x, savingParts s = some x → tableOrdered x.settings.limits x.settings.hyst

/-- The grant history holds the last four grants, newest first, none of them ahead of the clock and each at least 20 ms
after the one before it (R56). -/
abbrev GrantsSpaced (s : State) : Prop :=
  s.rlm.grants.length ≤ 4 ∧ (∀ g ∈ s.rlm.grants, g ≤ s.now) ∧ s.rlm.grants.Pairwise (fun newer older => older + 20 ≤ newer)

/-- The grant history after a step: untouched, emptied by a reset, or with one new grant that the spacing allowed, four
in any 250 ms at most (R55, R56). -/
def GrantTaken (s t : State) : Prop :=
  t.rlm.grants = s.rlm.grants ∨ t.rlm.grants = [] ∨
  (t.rlm.grants = (t.now :: s.rlm.grants).take 4 ∧ spacingAllows t.now s.rlm.grants = true)

/-- No applied duty stands above the cap in force (R134, R136). -/
def CapsHeld (s : State) : Prop := ∀ f c, capNow s f = some c → (s.fanRec f).applied ≤ c

/-- The coils of an axis as its state gives them (R2): both channels driven from HOMING to HOLDING, both off in PARKED
and FAULTED, both or none in WAIT_START. -/
def axisCoils (s : State) (a : Axis) : Prop :=
  match (s.axis a).state with
  | .homing => pairDriven s a = true
  | .moving => pairDriven s a = true
  | .settling => pairDriven s a = true
  | .holding => pairDriven s a = true
  | .waitStart => pairDriven s a = true ∨ energised s a = false
  | .parked => energised s a = false
  | .faulted => energised s a = false

/-- A latched channel is off, and its owner is FAULTED; HIT_NOT_REACHED is CH8's alone (R22, R27, R44). -/
def latchHeld (s : State) (c : Chan) : Prop :=
  ((s.chan c).latched = true → (s.chan c).level = none ∧
    match ownerOf c with
    | some a => (s.axis a).state = .faulted
    | none => s.brk.state = .faulted) ∧
  ((s.chan c).hitNotReached = true → c = .ch8)

/-- Who has a start request waits for its grant (R8, R9, R40, R51): its axis is in WAIT_START and not granted yet, and a
brake with one is ENGAGED. A granted axis that waits is a shift axis in WAIT_START (R9), and the origin COMP is FOC's
alone (R160). -/
def requestsWait (s : State) : Prop :=
  (∀ q ∈ s.rlm.queue,
    match q.requester with
    | .axis a => (s.axis a).state = .waitStart ∧ (s.axis a).granted = false
    | .brake => s.brk.state = .engaged
    | .fan _ => True) ∧
  ∀ a, ((s.axis a).granted = true → isShift a = true ∧ (s.axis a).state = .waitStart) ∧
    (a ≠ .foc → (s.axis a).origin ≠ .comp)

/-- The coils follow the states (R2, R27): CH8 is driven in RELEASING and RELEASED alone (R41, R42), with both shift
pairs driven then (R43), and no channel is driven while the calibration window is open (R36, R37). -/
def CoilsFollowTheStates (s : State) : Prop :=
  (∀ a, axisCoils s a) ∧ (∀ c, latchHeld s c) ∧
  ((s.chan .ch8).level.isSome = true ↔ s.brk.state = .releasing ∨ s.brk.state = .released) ∧
  ((s.chan .ch8).level.isSome = true → shiftDriven s = true) ∧
  (s.drv.window.isSome = true → ∀ c, (s.chan c).level = none) ∧ requestsWait s

/-- Travel limits in order, with the reference position between them (R3). -/
abbrev travelOrdered (st : AxisSettings) : Prop :=
  st.travelMin < st.travelMax ∧ st.travelMin ≤ st.refPos ∧ st.refPos ≤ st.travelMax

/-- A position within the travel limits (R5). -/
abbrev inTravel (st : AxisSettings) (p : Int) : Prop := st.travelMin ≤ p ∧ p ≤ st.travelMax

/-- A leg that a home alone runs (R16, R17): the search and its rest beyond the edge, the return, and the end of a failed
search. -/
abbrev homeLeg (l : Leg) : Prop :=
  l = .search ∨ l = .overrun ∨ l = .homeReturn ∨ l = .homeOvershoot ∨ l = .homeFail

/-- One axis within its travel (R5, R7, R12, R13, R17): a referenced axis stands within its limits, and so do the point
its leg runs to, the target of its move and the target it waits with; a home searches unreferenced, and its last leg
runs to the reference position; the legs of a home occur in HOMING alone; an axis that neither moves nor homes has no leg
to run. -/
def axisInTravel (r : AxisRec) : Prop :=
  travelOrdered r.settings ∧
  (r.referenced = true → inTravel r.settings r.position ∧ r.state ≠ .homing ∧
    (r.state = .moving → inTravel r.settings r.turnPoint ∧ inTravel r.settings r.target) ∧
    (r.state = .waitStart → r.origin ≠ .home ∧ ∃ t, r.pendingTarget = some t ∧ inTravel r.settings t)) ∧
  (r.state = .homing → (r.leg = .homeReturn → inTravel r.settings r.turnPoint) ∧
    (r.leg = .homeOvershoot → inTravel r.settings r.target)) ∧
  (homeLeg r.leg → r.state = .homing) ∧
  (r.state ≠ .moving → r.state ≠ .homing → r.profile = .rest)

/-- Every referenced axis stays within its travel limits, and the stored settings and those being saved keep their limits
in order (R3, R5, R181). -/
def TravelKept (s : State) : Prop :=
  (∀ a, axisInTravel (s.axis a)) ∧ (∀ a, travelOrdered (s.sto.image.parts.settings.axes.get a)) ∧
  ∀ x, savingParts s = some x → ∀ a, travelOrdered (x.settings.axes.get a)

/-! ### The link at rest -/

/-- A port with nothing to move: its transmitter and slots stay as they are, and no frame waits for a free serving
slot (R168, R170). -/
abbrev PortRec.Settled (hold : Bool) (r : PortRec) : Prop :=
  r.advance hold = r ∧ (r.serving = none → r.waiting = none)

/-- Both ports have nothing to move. -/
abbrev LinkSettled (s : State) : Prop :=
  (s.port .main).Settled (handling s .main) ∧ (s.port .service).Settled (handling s .service)

/-- A port that holds no frame, no reply and no notice. -/
abbrev PortRec.Idle (r : PortRec) : Prop :=
  r.serving = none ∧ r.waiting = none ∧ r.replyReady = none ∧ r.transmitter = none ∧ r.queue = []

/-- The port whose request a store write serves. -/
def Write.port : Write → Port
  | .preset p _ _ => p
  | .save p _ => p

/-- The port of the store write in progress, if one runs. -/
def writer (s : State) : Option Port := s.sto.write.map Write.port

/-- A store write keeps the serving slot of its port, with no reply built yet (R68, R168, R181). -/
def WriteServed (s : State) : Prop :=
  ∀ p, writer s = some p → ∃ f, (s.port p).serving = some ⟨f, none⟩

/-- A request that arrives on the port is answered at once: the link is at rest, the port is idle, and no store write
serves it. -/
abbrev LinkReady (p : Port) (s : State) : Prop := LinkSettled s ∧ (s.port p).Idle ∧ writer s ≠ some p

/-- A port that enables a notice's kind. -/
abbrev Hears (n : Notice) (r : PortRec) : Prop := maskBit r.mask (noticeBit n) = true

/-- The first notice of an event is on the transmitter of every idle port that hears it (R170, R174). -/
def NoticeSent (n : Notice) (s t : State) : Prop :=
  ∀ p, (s.port p).Idle → Hears n (s.port p) → (t.port p).transmitter = some (.notice n)

/-- The state with a request's frame in its port's serving slot. -/
def received (p : Port) (tag : Byte) (r : Request) (s : State) : State :=
  s.setPort p { s.port p with serving := some ⟨⟨tag, r⟩, none⟩ }

/-- The answer to a request on an idle port: the reply on the transmitter, the serving slot free and the ALERT line
formed (R168 to R170, R175). -/
def replied (p : Port) (tag : Byte) (r : Request) (a : Answer) (s : State) : State :=
  formAlert (s.setPort p { s.port p with serving := none, transmitter := some (.reply (replyOf ⟨tag, r⟩ a)) })

/-- The reply of a request is on the transmitter of its port. -/
abbrev Replies (p : Port) (tag : Byte) (r : Request) (a : Answer) (t : State) : Prop :=
  (t.port p).transmitter = some (.reply (replyOf ⟨tag, r⟩ a))

/-! ### Rows and requests -/

/-- The port, the TAG and the request of a request row. -/
def requestOf : Instr → Option (Port × Byte × Request)
  | .identGet p t => some (p, t, .identGet)
  | .statusGet p t => some (p, t, .statusGet)
  | .alertMaskSet p t m => some (p, t, .alertMaskSet m)
  | .alertClear p t => some (p, t, .alertClear)
  | .noticeMaskSet p t m => some (p, t, .noticeMaskSet m)
  | .reset p t => some (p, t, .reset)
  | .axisMove p t a x c => some (p, t, .axisMove a x c)
  | .axisJog p t a n c => some (p, t, .axisJog a n c)
  | .axisStop p t a => some (p, t, .axisStop a)
  | .axisHome p t a => some (p, t, .axisHome a)
  | .axisConfigSet p t a w => some (p, t, .axisConfigSet a w)
  | .axisConfigGet p t a => some (p, t, .axisConfigGet a)
  | .axisClear p t a => some (p, t, .axisClear a)
  | .brakeClear p t => some (p, t, .brakeClear)
  | .calibrate p t => some (p, t, .calibrate)
  | .permitSet p t m => some (p, t, .permitSet m)
  | .brakeSet p t x => some (p, t, .brakeSet x)
  | .presetStore p t slot m g l => some (p, t, .presetStore slot m g l)
  | .presetRecall p t slot => some (p, t, .presetRecall slot)
  | .presetGet p t slot => some (p, t, .presetGet slot)
  | .presetErase p t slot => some (p, t, .presetErase slot)
  | .historyBack p t => some (p, t, .historyBack)
  | .historyGet p t i => some (p, t, .historyGet i)
  | .cornerSet p t c dx dy => some (p, t, .cornerSet c dx dy)
  | .keystoneSet p t m v => some (p, t, .keystoneSet m v)
  | .mountSet p t m => some (p, t, .mountSet m)
  | .warpModeSet p t m => some (p, t, .warpModeSet m)
  | .geometryGet p t => some (p, t, .geometryGet)
  | .warpResend p t => some (p, t, .warpResend)
  | .sensorGet p t => some (p, t, .sensorGet)
  | .fanConfigSet p t f a b l => some (p, t, .fanConfigSet f a b l)
  | .fanGet p t => some (p, t, .fanGet)
  | .fanClear p t f => some (p, t, .fanClear f)
  | .quietSet p t q c => some (p, t, .quietSet q c)
  | .thermalLimitSet p t w => some (p, t, .thermalLimitSet w)
  | .thermalGet p t => some (p, t, .thermalGet)
  | .lightDemandSet p t d e => some (p, t, .lightDemandSet d e)
  | .shutdownClear p t => some (p, t, .shutdownClear)
  | .compSet p t e d => some (p, t, .compSet e d)
  | .compGet p t => some (p, t, .compGet)
  | .tableSet p t x l => some (p, t, .tableSet x l)
  | .tableGet p t x => some (p, t, .tableGet x)
  | .budgetSet p t b => some (p, t, .budgetSet b)
  | .settingsSave p t => some (p, t, .settingsSave)
  | .settingsDefault p t => some (p, t, .settingsDefault)
  | _ => none

end Sys2Proof.Machine
end

