-- ==== Sys2Proof/WellFormed.lean ====
section
/-! DEFINITION. The well-formed commands: what a frame can carry and what a sensor can report. The machine gives every
command a meaning; a well-formed one is a command that can reach the part. -/

namespace Sys2Proof

/-- The most payload bytes a frame carries: LEN counts KIND, TAG and payload and is at most 250 (R166). -/
def maxPayload : Nat := 248

/-- A sensed current is 0 to 2,000 mA (R27). -/
def currentInRange (n : Nat) : Bool := n ≤ 2000

/-- A label that a PRESET_STORE frame can carry beside its three bytes (R166, R171). -/
def labelFits (label : List Byte) : Bool := label.length + 3 ≤ maxPayload

/-- Table entries that a TABLE_SET frame can carry beside its first byte (R166, R171). -/
def entriesFit (entries : List Half) : Bool := 2 * entries.length + 1 ≤ maxPayload

/-- A zero reading is within one full scale of 12-bit codes on either side (R37, R115). -/
def zeroInRange (z : Int) : Bool := -4095 ≤ z && z ≤ 4095

/-- The present solenoid current of a dip is not above the highest one seen (R41). -/
def dipOrdered (peak current : Nat) : Bool := current ≤ peak

/-- A command that can reach the part. -/
def Instr.wellFormed (i : Instr) : Bool :=
  match i with
  | .powerOnReset => true
  | .pinReset => true
  | .softReset => true
  | .startUpHome => true
  | .startUpRecall => true
  | .frameReceived _ _ => true
  | .frameGapTimeout _ => true
  | .frameTransmitEnd _ => true
  | .identGet _ _ => true
  | .statusGet _ _ => true
  | .alertMaskSet _ _ _ => true
  | .alertClear _ _ => true
  | .noticeMaskSet _ _ _ => true
  | .reset _ _ => true
  | .axisMove _ _ _ _ _ => true
  | .axisJog _ _ _ _ _ => true
  | .axisStop _ _ _ => true
  | .axisHome _ _ _ => true
  | .axisConfigSet _ _ _ _ => true
  | .axisConfigGet _ _ _ => true
  | .axisClear _ _ _ => true
  | .brakeClear _ _ => true
  | .calibrate _ _ => true
  | .permitSet _ _ _ => true
  | .brakeSet _ _ _ => true
  | .presetStore _ _ _ _ _ label => labelFits label
  | .presetRecall _ _ _ => true
  | .presetGet _ _ _ => true
  | .presetErase _ _ _ => true
  | .historyBack _ _ => true
  | .historyGet _ _ _ => true
  | .cornerSet _ _ _ _ _ => true
  | .keystoneSet _ _ _ _ => true
  | .mountSet _ _ _ => true
  | .warpModeSet _ _ _ => true
  | .geometryGet _ _ => true
  | .warpResend _ _ => true
  | .sensorGet _ _ => true
  | .fanConfigSet _ _ _ _ _ _ => true
  | .fanGet _ _ => true
  | .fanClear _ _ _ => true
  | .quietSet _ _ _ _ => true
  | .thermalLimitSet _ _ _ => true
  | .thermalGet _ _ => true
  | .lightDemandSet _ _ _ _ => true
  | .shutdownClear _ _ => true
  | .compSet _ _ _ _ => true
  | .compGet _ _ => true
  | .tableSet _ _ _ entries => entriesFit entries
  | .tableGet _ _ _ => true
  | .budgetSet _ _ _ => true
  | .settingsSave _ _ => true
  | .settingsDefault _ _ => true
  | .presetWriteEnd => true
  | .settingsWriteEnd => true
  | .grantSpacingExpiry => true
  | .queueTimeout _ => true
  | .cruiseReached _ => true
  | .decelPointReached _ => true
  | .legAtRest _ => true
  | .settleExpiry _ => true
  | .loadIndicator _ _ => true
  | .homeSensorEdge _ _ => true
  | .homeSearchLimit _ => true
  | .openLoadCheckExpiry _ => true
  | .openLoadCheckPass _ current => currentInRange current
  | .overcurrentDetected _ current => currentInRange current
  | .brakeHitReached current => currentInRange current
  | .brakeDipSeen peak current => currentInRange peak && dipOrdered peak current
  | .hitTimeExpiry => true
  | .engageTimeExpiry => true
  | .clampPendingExpiry => true
  | .railLowBegin => true
  | .railLowEnd => true
  | .calibrationDueTimer => true
  | .calibrationWindowOpen => true
  | .calibrationWindowClose zeros => zeros.toList.all zeroInRange
  | .scanEnd _ => true
  | .controlPeriod => true
  | .tachPulse _ => true
  | .spinupExpiry _ => true
  | .warpAcknowledge => true
  | .acknowledgeTimeout => true

end Sys2Proof
end

