-- ==== Sys2Proof/Certificates/Slice0/Obligations.lean ====
section
/-! DEFINITION. The statements for the provers. Each says what the commands it names do, as the rules of spec/ give it.
Words used below: a port is ready when its link is at rest and it is idle (`LinkReady`); `replied` is the state in which
the reply of a request has gone onto the transmitter and the ALERT line is formed. -/

open Sys2Proof Sys2Proof.Machine

/-! ### The machine as a whole -/

/-- A step with a command at the front of the queue is that command on the state with the queue's rest. With no command
waiting one millisecond passes, which is the model's choice (log entry 1): the clock counts, each axis moves on along its
leg, and nothing else changes. -/
def Obligations.StepRunsTheFrontCommand : Prop :=
  (∀ (c : Instr) (rest : List Instr) (s : State), s.pending = c :: rest → step s = exec c { s with pending := rest }) ∧
  ∀ s : State, s.pending = [] →
    ∃ t, step s = .next t ∧ t.now = s.now + 1 ∧ (∀ a, t.axis a = moveBy 1 (s.axis a)) ∧
      t = { s with now := t.now, axc := t.axc }

/-- Every command completes, on every state: the model's choice (log entry 6), since the manual names no command that
stops the part. The queue is untouched (the model's queue, log entry 47); the clock runs back only at a power-on or pin
reset (the model's clock, log entry 1); a reference-sensor input changes only by its own edge, and keeps its level
through resets (the model's choice, log entry 42); and the stored image changes only when a store write ends or at a
power-on or pin reset (R180). -/
def Obligations.EveryCommandCompletesWithinItsFrame : Prop :=
  ∀ (i : Instr) (s : State),
    ∃ t, exec i s = .next t ∧ t.pending = s.pending ∧
      (i ≠ .powerOnReset → i ≠ .pinReset → s.now ≤ t.now) ∧
      ((∀ a x, i ≠ .homeSensorEdge a x) → t.refActive = s.refActive) ∧
      (i ≠ .powerOnReset → i ≠ .pinReset → i ≠ .presetWriteEnd → i ≠ .settingsWriteEnd → t.sto.image = s.sto.image)

/-! ### Invariants every step keeps -/

/-- The entries of the actuator rail never exceed the budget, whatever command comes (R47, R50, R54, R62, R63). -/
def Obligations.RailSumStaysWithinTheBudget : Prop :=
  ∀ s t : State, RailSound s → step s = .next t → RailSound t

/-- After every command the ALERT output is driven low exactly when an unmasked class stands (R175), the transmitters and
slots of both ports have nothing left to move, and a store write in progress keeps the serving slot of its port (R68,
R168, R170, R181); an idle step keeps all three so. -/
def Obligations.AlertAndLinkAreSettledAfterEveryCommand : Prop :=
  (∀ (i : Instr) (s t : State), exec i s = .next t → AlertFormed t ∧ LinkSettled t) ∧
  (∀ s t : State, AlertFormed s → step s = .next t → AlertFormed t) ∧
  ∀ s t : State, LinkSettled s ∧ WriteServed s → step s = .next t → LinkSettled t ∧ WriteServed t

/-- Every bounded collection keeps its bound after every step: one start request per consumer (R51, R52, R60), at most
eight notices in a queue (R165, R174), at most eight snapshots with a discard counter of at most 65,535, and twelve
slots in both preset tables (R65, R78, R79). The grant history keeps the last four grants, each at least 20 ms after the
one before it, and a step adds one grant at most, which makes no fifth in any 250 ms (R55, R56). -/
def Obligations.QueuesAndStacksKeepTheirBounds : Prop :=
  (∀ s t : State, OneRequestEach s → step s = .next t → OneRequestEach t) ∧
  (∀ s t : State, NoticeRoom s → step s = .next t → NoticeRoom t) ∧
  (∀ s t : State, LensMemoryShape s → step s = .next t → LensMemoryShape t) ∧
  ∀ s t : State, GrantsSpaced s → step s = .next t → GrantsSpaced t ∧ GrantTaken s t

/-- The live geometry record and the staged geometry pass the acceptance test after every step, and the effective quad
and its area permille are those of the live record (R83, R84, R86, R88, R89, R95, R97). -/
def Obligations.LiveGeometryStaysAccepted : Prop :=
  ∀ s t : State, GeometryAccepted s → step s = .next t → GeometryAccepted t

/-- The acknowledge timer runs in POSTED alone, and a warp is pending in POSTED alone, after every step (R99, R106 to
R110). -/
def Obligations.WarpLinkKeepsItsShape : Prop :=
  ∀ s t : State, WarpLinkShape s → step s = .next t → WarpLinkShape t

/-- After every step LSEN follows the enable flag and is deasserted in SHUTDOWN; the light-source limit is the one of the
regime, the cap priority and the excess, within 50 of the last notified value (R148, R150, R151, R152); no applied duty
stands above the acoustic cap in force (R134, R136, R153); and the limit table in force, the stored one and the one being
saved are in order (R143, R154, R181). That LSEN follows the enable flag also before the first published set, where R142
says that it is deasserted, is the model's choice (log entry 62), and so is L left open beyond an excess of 250 (log
entry 33). -/
def Obligations.ThermalSupervisorStaysSound : Prop :=
  (∀ s t : State, LightGuarded s → step s = .next t → LightGuarded t) ∧
  (∀ s t : State, LimitFormed s → step s = .next t → LimitFormed t) ∧
  (∀ s t : State, CapsHeld s → step s = .next t → CapsHeld t) ∧
  ∀ s t : State, LimitsOrdered s → step s = .next t → LimitsOrdered t

/-- The state after reset meets every invariant that a statement here says each step keeps. -/
def Obligations.ResetStateMeetsEveryInvariant : Prop :=
  RailSound State.reset ∧ OneRequestEach State.reset ∧ AlertFormed State.reset ∧ LinkSettled State.reset ∧
  WriteServed State.reset ∧ NoticeRoom State.reset ∧ LensMemoryShape State.reset ∧ GeometryAccepted State.reset ∧
  WarpLinkShape State.reset ∧ LightGuarded State.reset ∧ LimitFormed State.reset ∧ LimitsOrdered State.reset ∧
  GrantsSpaced State.reset ∧ CapsHeld State.reset ∧ CoilsFollowTheStates State.reset ∧ TravelKept State.reset

/-! ### Frames -/

/-- Every request of the code table reads back from the payload a sender builds for it: no field is dropped or
displaced (R169, R171, R177). -/
def Obligations.PayloadOfEveryRequestReadsBack : Prop :=
  ∀ r : Request, inCodeTable r = true → parseRequest (kindOf r) (payloadOf r) = r

/-- The bytes of a request's frame, received on a port whose receiver hunts, do what the request's own row does: both
complete, with the same next state (R166 to R169). -/
def Obligations.FrameReceivedActsAsItsRequest : Prop :=
  ∀ (i : Instr) (p : Port) (tag : Byte) (r : Request) (s : State),
    requestOf i = some (p, tag, r) → inCodeTable r = true → (s.port p).receiver = .hunt →
    ∃ t, exec (.frameReceived p (frameBytes (kindOf r) tag (payloadOf r))) s = .next t ∧ exec i s = .next t

/-- What a receiver discards (R167): a frame with a byte gap, one whose LEN is outside 2 to 250, and one whose CHECK is
not the CRC of LEN to PAYLOAD. Each raises bad frames, sets the LINK latch and its reason, and leaves the receiver
hunting; a byte other than SYNC outside a frame changes nothing. A gap while the receiver hunts changes nothing either
(the model's choice, log entry 2). A request on a busy port (R168): with the serving slot taken it waits; with both
slots taken it is an overrun, which changes nothing but the overrun counter, the reason of the last discard and the LINK
latch. -/
def Obligations.ReceiverAndSlotsTakeFrames : Prop :=
  (∀ (p : Port) (s : State), LinkSettled s →
     let counted := fun why : Discard => s.setPort p { s.port p with
       receiver := .hunt, badFrames := satSucc 65535 (s.port p).badFrames, lastDiscard := why }
     let dropped := fun why : Discard =>
       formAlert { counted why with lnk := { (counted why).lnk with linkLatch := true } }
     (∀ bytes, (s.port p).receiver = .inFrame bytes → exec (.frameGapTimeout p) s = .next (dropped .gap)) ∧
     ((s.port p).receiver = .hunt → exec (.frameGapTimeout p) s = .next (formAlert s)) ∧
     (∀ b : Byte, (s.port p).receiver = .hunt → b ≠ 0xD5 →
       exec (.frameReceived p [b]) s = .next (formAlert s)) ∧
     (∀ len : Byte, (s.port p).receiver = .hunt → len.toNat < 2 ∨ 250 < len.toNat →
       exec (.frameReceived p [0xD5, len]) s = .next (dropped .length)) ∧
     (∀ (len : Byte) (body : List Byte) (c0 c1 : Byte), (s.port p).receiver = .hunt → 2 ≤ len.toNat →
       len.toNat ≤ 250 → body.length = len.toNat → [c0, c1] ≠ crcBytes (len :: body) →
       exec (.frameReceived p (0xD5 :: len :: (body ++ [c0, c1]))) s = .next (dropped .check))) ∧
  (∀ (i : Instr) (p : Port) (tag : Byte) (r : Request) (s : State) (sv : Serving),
     requestOf i = some (p, tag, r) → inCodeTable r = true → LinkSettled s → (s.port p).serving = some sv →
     ((s.port p).waiting = none →
       exec i s = .next (formAlert (s.setPort p { s.port p with waiting := some ⟨tag, r⟩ }))) ∧
     (∀ f, (s.port p).waiting = some f →
       ∃ t, exec i s = .next t ∧
         t.port p = { s.port p with overruns := satSucc 65535 (s.port p).overruns, lastDiscard := .overrun } ∧
         t.lnk.linkLatch = true ∧ (∀ q, q ≠ p → t.port q = s.port q) ∧ t.lnk.permit = s.lnk.permit ∧
         t.lnk.alertMask = s.lnk.alertMask ∧ t.lnk.arranged = s.lnk.arranged ∧ t = { s with lnk := t.lnk }))

/-- A transmitter that ends a frame takes the reply in reply ready first, else the oldest notice, else it stays free
(R170). While RESET's reply has still to leave its port, a frame that leaves there is one fewer ahead of it, and with
none ahead it is that reply, which lets the soft reset follow (R185; how the frames ahead are counted is the model's,
log entry 19). That the end of RESET's own reply too lets the next frame begin, before the soft reset, is the model's
choice (log entry 68). A reply held in the serving slot is placed in reply ready as that is emptied and frees the slot,
and the waiting frame is then served at once, as if it arrived at that moment (R168); a slot kept by a store write holds
nothing back. -/
def Obligations.TransmitterTakesReplyThenOldestNotice : Prop :=
  ∀ (p : Port) (s : State) (f : OutFrame), LinkSettled s → (s.port p).transmitter = some f →
    ((s.port p).serving = none ∨ writer s = some p ∧ (∀ sv, (s.port p).serving = some sv → sv.held = none) →
     ∃ t, exec (.frameTransmitEnd p) s = .next t ∧
      (∀ rep, (s.port p).replyReady = some rep →
        t.port p = { s.port p with transmitter := some (.reply rep), replyReady := none }) ∧
      (∀ n rest, (s.port p).replyReady = none → (s.port p).queue = n :: rest →
        t.port p = { s.port p with transmitter := some (.notice n), queue := rest }) ∧
      ((s.port p).replyReady = none → (s.port p).queue = [] → t.port p = { s.port p with transmitter := none }) ∧
      (∀ x, s.lnk.arranged = some x → x.port = p → x.replyLeft = false →
        (x.ahead = 0 → t.lnk.arranged = some { x with replyLeft := true }) ∧
        (∀ n, x.ahead = n + 1 → t.lnk.arranged = some { x with ahead := n })) ∧
      (∀ x, s.lnk.arranged = some x → x.port ≠ p ∨ x.replyLeft = true → t.lnk.arranged = some x) ∧
      (s.lnk.arranged = none → t.lnk.arranged = none) ∧ (∀ q, q ≠ p → t.port q = s.port q) ∧
      t = { s with lnk := t.lnk }) ∧
    (∀ sv, (s.port p).serving = some sv → ∀ held, sv.held = some held → ∀ rep, (s.port p).replyReady = some rep →
      let moved := s.setPort p { s.port p with
        transmitter := some (.reply rep), replyReady := some held, serving := none, waiting := none }
      ((s.port p).waiting = none →
        ∃ t, exec (.frameTransmitEnd p) s = .next t ∧ t.port p = moved.port p ∧ (∀ q, q ≠ p → t.port q = s.port q) ∧
          t = { s with lnk := t.lnk }) ∧
      (∀ w, (s.port p).waiting = some w → ∀ i, requestOf i = some (p, w.tag, w.req) → inCodeTable w.req = true →
        s.lnk.arranged = none → exec (.frameTransmitEnd p) s = exec i moved))

/-! ### Requests that read -/

/-- The reading requests are answered OK with their rule's items and change nothing but the transmitter and the ALERT
line (R4, R69, R81, R113, R127, R141, R155, R164, R177, R179); a number outside the set is answered RANGE, an empty
history entry EMPTY. The layout of the items where the rules leave it open is the model's choice (log entry 22), and so are
which values are signed (log entry 20); the codes, LSEN as a flag that is 1 when asserted and the hold NONE as 8 among
them (log entry 21); COMP_GET's table value I after a load and before the first LNS value (log entry 60), its error left
open beyond four bytes (log entry 71) and its hold NONE where AXC would refuse the move (log entry 73); and in IDENT_GET
the two numbers left open (log entry 17) and the whole seconds (log entry 74). -/
def Obligations.ReadingRequestsAnswerAndChangeNothing : Prop :=
  ∀ (p : Port) (tag : Byte) (s : State), LinkReady p s →
    exec (.identGet p tag) s = .next (replied p tag .identGet (okData (identD s)) s) ∧
    exec (.geometryGet p tag) s = .next (replied p tag .geometryGet (okData (geometryD s)) s) ∧
    exec (.sensorGet p tag) s = .next (replied p tag .sensorGet (okData (sensorsD s)) s) ∧
    exec (.fanGet p tag) s = .next (replied p tag .fanGet (okData (fansD s)) s) ∧
    exec (.thermalGet p tag) s = .next (replied p tag .thermalGet (okData (thermalD s.ths)) s) ∧
    exec (.compGet p tag) s = .next (replied p tag .compGet (okData (compD s)) s) ∧
    (∀ b, exec (.axisConfigGet p tag b) s = .next (replied p tag (.axisConfigGet b)
      (match axisOf b with | some a => okData (axisConfigD (s.axis a)) | none => refuse .range) s)) ∧
    (∀ b : Byte, exec (.presetGet p tag b) s = .next (replied p tag (.presetGet b)
      (if b.toNat < 12 then okData (presetD (s.lmm.presets.getD b.toNat emptyPreset)) else refuse .range) s)) ∧
    (∀ b : Byte, exec (.historyGet p tag b) s = .next (replied p tag (.historyGet b)
      (if 7 < b.toNat then refuse .range
       else match s.lmm.history[b.toNat]? with
        | some x => okData (depthD s.lmm ++ snapshotD x)
        | none => ⟨.empty, noFlags, depthD s.lmm⟩) s)) ∧
    (∀ b, exec (.tableGet p tag b) s = .next (replied p tag (.tableGet b)
      (match tableOf b with
        | some id => okData ((tableEntries s id).map fun z => .i16 z)
        | none => refuse .range) s))

/-! ### Requests of the link itself -/

/-- STATUS_GET, ALERT_MASK_SET, ALERT_CLEAR, NOTICE_MASK_SET, RESET and PERMIT_SET set their own item alone (R173 to
R176, R178, R185): STATUS_GET clears NOTICE_LOST on the port asking, after the reply has carried it; the notice mask is
the one of the port on which the request arrives; ALERT_CLEAR clears the LINK latch and reports the classes that stand
after it; RESET arranges the soft reset that follows its reply; PERMIT_SET from SERVICE replaces the permission map, and
a value naming anything but the six permissions is refused with RANGE. RESET is stated with no soft reset arranged yet
(what a second one does is the model's choice, log entry 19). Of the items of STATUS_GET the model's choice are the layout
and the widths (log entry 22), which values are signed (log entry 20), the codes, LSEN as a flag that is 1 when asserted
among them (log entry 21), the head hold NONE of a head that fails no grant condition (log entry 69) and the whole seconds
since the last calibration run (log entry 74). -/
def Obligations.LinkRequestsSetTheirOwnItem : Prop :=
  ∀ (p : Port) (tag : Byte) (s : State), LinkReady p s →
    (∀ m, exec (.alertMaskSet p tag m) s =
      .next (replied p tag (.alertMaskSet m) okAnswer { s with lnk := { s.lnk with alertMask := m } })) ∧
    (∀ m, exec (.noticeMaskSet p tag m) s =
      .next (replied p tag (.noticeMaskSet m) okAnswer (s.setPort p { s.port p with mask := m }))) ∧
    (let s' : State := { s with lnk := { s.lnk with linkLatch := false } }
     exec (.alertClear p tag) s = .next (replied p tag .alertClear (okData [.u8 (standingMask s')]) s')) ∧
    (s.lnk.arranged = none → exec (.reset p tag) s =
      .next (replied p tag .reset okAnswer { s with lnk := { s.lnk with arranged := some ⟨p, false, 0⟩ } })) ∧
    exec (.statusGet p tag) s =
      .next (replied p tag .statusGet (okData (statusD s p)) (s.setPort p { s.port p with noticeLost := false })) ∧
    (∀ map : Byte, p = .service →
      exec (.permitSet p tag map) s =
        (if map.toNat < 64 then
          .next (replied p tag (.permitSet map) okAnswer { s with lnk := { s.lnk with permit := map } })
         else .next (replied p tag (.permitSet map) (refuse .range) s)))

/-- What MAIN may not do changes nothing (R172, R173). A request that is protected as a whole is answered OK with MASKED.
A request whose permission is closed is refused with DENIED: the motion requests by the bit of their axis, the
lens-memory requests by PRESET, the geometry requests by GEOMETRY (R6, R67, R68, R71, R80, R88 to R91). -/
def Obligations.MainIsMaskedAndDenied : Prop :=
  ∀ (tag : Byte) (s : State), LinkReady .main s →
    (∀ m, exec (.permitSet .main tag m) s = .next (replied .main tag (.permitSet m) maskedAnswer s)) ∧
    (∀ x, exec (.brakeSet .main tag x) s = .next (replied .main tag (.brakeSet x) maskedAnswer s)) ∧
    (∀ f a b l, exec (.fanConfigSet .main tag f a b l) s =
      .next (replied .main tag (.fanConfigSet f a b l) maskedAnswer s)) ∧
    (∀ w, exec (.thermalLimitSet .main tag w) s = .next (replied .main tag (.thermalLimitSet w) maskedAnswer s)) ∧
    (∀ b, exec (.budgetSet .main tag b) s = .next (replied .main tag (.budgetSet b) maskedAnswer s)) ∧
    (∀ t id l, tableOf t = some id → l.length = tableSize id →
      exec (.tableSet .main tag t l) s = .next (replied .main tag (.tableSet t l) maskedAnswer s)) ∧
    (∀ b a c cls x, axisOf b = some a → speedOf c = some cls → maskBit s.lnk.permit (axisCode a) = false →
      exec (.axisMove .main tag b x c) s = .next (replied .main tag (.axisMove b x c) (refuse .denied) s) ∧
      exec (.axisJog .main tag b x c) s = .next (replied .main tag (.axisJog b x c) (refuse .denied) s) ∧
      exec (.axisHome .main tag b) s = .next (replied .main tag (.axisHome b) (refuse .denied) s)) ∧
    (∀ b : Byte, maskBit s.lnk.permit 5 = false → b.toNat < 12 →
      exec (.presetRecall .main tag b) s = .next (replied .main tag (.presetRecall b) (refuse .denied) s) ∧
      exec (.presetErase .main tag b) s = .next (replied .main tag (.presetErase b) (refuse .denied) s) ∧
      (∀ (mask geo : Byte) (label : List Byte), label.length ≤ 16 → (∀ c ∈ label, 32 ≤ c.toNat ∧ c.toNat ≤ 126) →
        mask.toNat < 16 → exec (.presetStore .main tag b mask geo label) s =
          .next (replied .main tag (.presetStore b mask geo label) (refuse .denied) s)) ∧
      exec (.historyBack .main tag) s = .next (replied .main tag .historyBack (refuse .denied) s)) ∧
    (maskBit s.lnk.permit 4 = false →
      (∀ c dx dy, c.toNat < 4 →
        exec (.cornerSet .main tag c dx dy) s = .next (replied .main tag (.cornerSet c dx dy) (refuse .denied) s)) ∧
      (∀ b v m, keyModeOf b = some m →
        exec (.keystoneSet .main tag b v) s = .next (replied .main tag (.keystoneSet b v) (refuse .denied) s)) ∧
      (∀ b m, mountOf b = some m →
        exec (.mountSet .main tag b) s = .next (replied .main tag (.mountSet b) (refuse .denied) s)) ∧
      (∀ b m, warpModeOf b = some m →
        exec (.warpModeSet .main tag b) s = .next (replied .main tag (.warpModeSet b) (refuse .denied) s)))

/-! ### Motion requests -/

/-- The order in which AXIS_MOVE, AXIS_JOG and AXIS_HOME are refused (R6): a number outside its set, then the regime,
then a fault, then a motion that does not admit it, then, for AXIS_MOVE, a missing reference; last, a new target for an
axis that decelerates to a decided end is refused with THERMAL or FAULT by that end (R13; that this check comes last is
the model's choice, log entry 14). The refusal changes nothing. From SERVICE, which no permission closes. -/
def Obligations.MotionRequestsAreRefusedInOrder : Prop :=
  ∀ (tag b c : Byte) (x : Long) (s : State), LinkReady .service s →
    let move := fun res : Result =>
      exec (.axisMove .service tag b x c) s = .next (replied .service tag (.axisMove b x c) (refuse res) s)
    let jog := fun res : Result =>
      exec (.axisJog .service tag b x c) s = .next (replied .service tag (.axisJog b x c) (refuse res) s)
    let home := fun res : Result =>
      exec (.axisHome .service tag b) s = .next (replied .service tag (.axisHome b) (refuse res) s)
    (axisOf b = none ∨ speedOf c = none → move .range ∧ jog .range) ∧ (axisOf b = none → home .range) ∧
    (∀ a cls, axisOf b = some a → speedOf c = some cls →
      let closed : Prop := s.ths.regime = .emergency ∨ s.ths.regime = .shutdown
      let faulted : Prop := (s.axis a).state = .faulted ∨ s.drv.driverHot = true ∨ s.drv.railLow = true ∨
        ∃ q, partnerOf a = some q ∧ (s.brk.state = .faulted ∨ (s.axis q).state = .faulted)
      let homing : Prop := (s.axis a).state = .homing ∨ ((s.axis a).state = .waitStart ∧ (s.axis a).origin = .home)
      let busyHome : Prop := (s.axis a).state = .homing ∨ (s.axis a).state = .waitStart ∨ (s.axis a).state = .moving ∨
        (s.axis a).state = .settling
      let ended := fun res : MoveResult => (s.axis a).state = .moving ∧ (s.axis a).endResult = some res
      (closed → move .thermal ∧ jog .thermal ∧ home .thermal) ∧
      (¬closed → faulted → move .fault ∧ jog .fault ∧ home .fault) ∧
      (¬closed → ¬faulted → (homing → move .busy ∧ jog .busy) ∧ (busyHome → home .busy)) ∧
      (¬closed → ¬faulted → ¬homing →
        ((s.axis a).referenced = false → move .state) ∧
        (ended .thermal → jog .thermal ∧ ((s.axis a).referenced = true → move .thermal)) ∧
        (ended .brakeEngaged → jog .fault ∧ ((s.axis a).referenced = true → move .fault))))

/-- A move from rest that must wait for its grant (R6 to R8, R78): AXIS_MOVE on a referenced axis and AXIS_JOG on any
axis, PARKED or HOLDING, that R7 does not end at once. The axis enters WAIT_START with its resume state, target, origin
and speed class; a MOTOR request of the need of R8 is the one entry of the queue; a snapshot is pushed. Nothing is
granted while the calibration window is open (R54), and nothing else changes. -/
def Obligations.MoveFromRestWaitsForItsGrant : Prop :=
  ∀ (p : Port) (tag b c : Byte) (x : Long) (s : State) (a : Axis) (cls : Speed), LinkReady p s →
    axisOf b = some a → speedOf c = some cls → closedTo s p (axisCode a) = false →
    ((s.axis a).state = .parked ∨ (s.axis a).state = .holding) →
    s.drv.window.isSome = true → s.rlm.queue = [] →
    let waits := fun (t : Int) (o : SnapOrigin) =>
      let s' := pushHistory o s
      { s'.setAxis a { s'.axis a with
          state := .waitStart, resume := if (s.axis a).state = .holding then .holding else .parked
          pendingTarget := some t, origin := .user, speedClass := cls, endResult := none, settleMove := false
          granted := false } with
        rlm := { s.rlm with
          queue := [⟨.axis a, .motor, (axisNeed s a).1, (axisNeed s a).2, s.rlm.nextArrival, s.now⟩]
          nextArrival := s.rlm.nextArrival + 1 } }
    (motionCheck s a .absolute = none →
      let t := clampInt (s.axis a).settings.travelMin (s.axis a).settings.travelMax x.toInt
      zeroLength (s.axis a) t = false →
      exec (.axisMove p tag b x c) s = .next (replied p tag (.axisMove b x c)
        ⟨.accepted, clampedFlag (t ≠ x.toInt), []⟩ (waits t .move))) ∧
    (motionCheck s a .jog = none →
      let n := clampInt (-4000) 4000 x.toInt
      let t := clampReach (s.axis a) ((s.axis a).position + n)
      zeroLength (s.axis a) t = false →
      exec (.axisJog p tag b x c) s = .next (replied p tag (.axisJog b x c)
        ⟨.accepted, ⟨n ≠ x.toInt || t ≠ (s.axis a).position + n, false, false, coalesces (.jog a) s.lmm.history⟩, []⟩
        (waits t (.jog a))))

/-- A new target for an axis, with nothing granted in that event (R7, R13, R14, R25, R73, R158): AXIS_MOVE and AXIS_JOG,
whose jog adds to the pending target in WAIT_START, to the target in MOVING, and to the position else. A move of no length
from rest ends at once with DONE and sets FOC's base. A MOVING axis goes on when the target lies ahead beyond its stopping
distance, with the turn point of R12, and else decelerates to its stop point to reverse; a recorded end is dropped. In
WAIT_START target, class and origin are replaced and the request keeps its place, unless its class changes. In SETTLING
the settle ends and a start waits, whose need is 0 with the entry at 2 × RUN, for a shift axis too whatever its partner
does (R14, R52). A move of another origin in progress ends SUPERSEDED: FCP's is over, and a recall no longer awaits the
axis and goes on as long as it awaits another. Clamped points are the model's choice (log entry 23), and so are the origin
and class that a move of no length records (log entry 29), the partner hold false of a start from SETTLING (log entry 52)
and a base left open where it would leave the signed 32 bits of R156 (log entry 64). -/
def Obligations.NewTargetContinuesTheMove : Prop :=
  ∀ (p : Port) (tag b c : Byte) (x : Long) (s : State) (a : Axis) (cls : Speed), LinkReady p s →
    axisOf b = some a → speedOf c = some cls → closedTo s p (axisCode a) = false →
    let r := s.axis a
    let blocked : Prop := s.drv.window.isSome = true ∨ spacingAllows s.now s.rlm.grants = false
    let queued := fun (n : Notice) (t : State) => ∀ q, (s.port q).Idle → Hears n (s.port q) →
      n ∈ (t.port q).queue ∨ (t.port q).transmitter = some (.notice n)
    let still := fun (t : State) => t.drv = s.drv ∧ t.brk = s.brk ∧ ∀ y, y ≠ a → t.axis y = s.axis y
    let overtakes := fun (t : State) =>
      (r.origin ≠ .user → queued (.motionDone a r.origin .superseded r.position) t) ∧
      (r.origin = .comp → a = .foc → t.fcp = { s.fcp with moveActive := false, lastResult := some .superseded }) ∧
      (r.origin = .recalled ∨ r.origin = .back → s.lmm.active = true → s.lmm.owed.get a = true →
        t.lmm.owed.get a = false ∧
        ((∃ y, y ≠ a ∧ s.lmm.owed.get y = true) → t.lmm.active = true) ∧
        ((∀ y, y ≠ a → s.lmm.owed.get y = false) → t.lmm.active = false))
    let waits := fun (t : State) (g : Int) (q : Option (StartClass × Nat × Nat)) =>
      (t.axis a).pendingTarget = some g ∧ (t.axis a).origin = .user ∧ (t.axis a).speedClass = cls ∧
      (t.axis a).state = .waitStart ∧ (t.axis a).position = r.position ∧
      t.rlm.queue = (q.map fun y => (⟨.axis a, y.1, (axisNeed s a).1, (axisNeed s a).2, y.2.1, y.2.2⟩ : StartReq)).toList ∧
      t.rlm.grants = s.rlm.grants ∧ t.rlm.axes = s.rlm.axes ∧ still t
    let takes := fun (i : Instr) (req : Request) (fl : Flags) (g : Int) (o : SnapOrigin) =>
      (s.rlm.queue = [] ∨ blocked) → (∀ q ∈ s.rlm.queue, q.requester = .axis a) →
      ∃ t, exec i s = .next t ∧ Replies p tag req ⟨.accepted, fl, []⟩ t ∧
        t.lmm.history = (pushHistory o s).lmm.history ∧ t.now = s.now ∧
        (r.state = .parked ∨ r.state = .holding → g = r.position → s.rlm.queue = [] →
          r.lastDir = r.settings.approach ∨ r.settings.takeup = 0 →
          t.axis a = { r with origin := .user, speedClass := cls } ∧ t.rlm = s.rlm ∧ still t ∧
          queued (.motionDone a .user .done r.position) t ∧
          (a = .foc → r.referenced = true →
            t.fcp = { s.fcp with base := t.fcp.base, baseValid := s.fcp.offsetKnown } ∧
            (s.fcp.offsetKnown = false → t.fcp.base = s.fcp.base) ∧
            (let d := r.position - s.fcp.offsetNow
             s.fcp.offsetKnown = true → -2 ^ 31 ≤ d → d < 2 ^ 31 → t.fcp.base.toInt = d))) ∧
        (r.state = .moving → s.rlm.queue = [] →
          let ahead : Prop := (stopDistance r : Int) ≤ (g - r.position) * r.dir.sign
          let plan := planLeg r.settings (clampReach r) r.dir g .toTarget .overshoot
          (t.axis a).state = .moving ∧ (t.axis a).target = g ∧ (t.axis a).origin = .user ∧
          (t.axis a).speedClass = cls ∧ (t.axis a).endResult = none ∧ (t.axis a).dir = r.dir ∧
          (t.axis a).position = r.position ∧ (t.axis a).speed = r.speed ∧
          (ahead → (t.axis a).turnPoint = plan.1 ∧ (t.axis a).leg = plan.2) ∧
          (¬ahead → (t.axis a).leg = .reversal ∧ (t.axis a).profile = .decel ∧ (t.axis a).phase = .decel ∧
            (t.axis a).turnPoint = clampReach r (r.position + r.dir.sign * (stopDistance r : Nat))) ∧
          t.rlm = s.rlm ∧ still t ∧ overtakes t) ∧
        (r.state = .waitStart → (s.rlm.queue = [] → r.origin ≠ .comp → waits t g none ∧ overtakes t) ∧
          (∀ y, s.rlm.queue = [y] → blocked → y.cls = startClass r.origin →
            (r.origin ≠ .comp → waits t g (some (.motor, y.arrival, y.since)) ∧ overtakes t) ∧
            (r.origin = .comp → waits t g (some (.motor, s.rlm.nextArrival, s.now)) ∧ overtakes t))) ∧
        (r.state = .settling → s.rlm.queue = [] → blocked →
          waits t g (some (.motor, s.rlm.nextArrival, s.now)) ∧ (t.axis a).resume = .settling ∧
          (s.rlm.axes.get a = 2 * r.settings.run →
            t.rlm.queue = [⟨.axis a, .motor, 0, false, s.rlm.nextArrival, s.now⟩]) ∧
          (t.axis a).endResult = none ∧ (r.settleMove = true → overtakes t))
    (motionCheck s a .absolute = none →
      let g := clampInt r.settings.travelMin r.settings.travelMax x.toInt
      takes (.axisMove p tag b x c) (.axisMove b x c) (clampedFlag (g ≠ x.toInt)) g .move) ∧
    (motionCheck s a .jog = none →
      let n := clampInt (-4000) 4000 x.toInt
      let base := if r.state = .waitStart then r.pendingTarget.getD r.position
        else if r.state = .moving then r.target else r.position
      let g := clampReach r (base + n)
      takes (.axisJog p tag b x c) (.axisJog b x c)
        ⟨n ≠ x.toInt || g ≠ base + n, false, false, coalesces (.jog a) s.lmm.history⟩ g (.jog a))

/-- AXIS_MOVE and AXIS_JOG on ZOM or FOC, granted in the event that asks (R6, R7, R9, R11, R12, R54, R55): with the
window closed, the spacing met and the need within the budget, the coils go to RUN, the entry to 2 × RUN, the moment
enters the grant history, and the axis is MOVING in phase ACCEL from speed 0. Its leg runs in the direction of the target
to the turn point of R12: the target in the approach direction, else the overshoot point beyond it. -/
def Obligations.ZoomAndFocusStartAtTheirGrant : Prop :=
  ∀ (p : Port) (tag b c : Byte) (x : Long) (s : State) (a : Axis) (cls : Speed), LinkReady p s →
    axisOf b = some a → partnerOf a = none → speedOf c = some cls → closedTo s p (axisCode a) = false →
    ((s.axis a).state = .parked ∨ (s.axis a).state = .holding) →
    s.drv.window = none → s.rlm.queue = [] → spacingAllows s.now s.rlm.grants = true →
    s.rlm.sum + (2 * (s.axis a).settings.run - s.rlm.axes.get a) ≤ s.rlm.budget →
    let starts := fun (t : Int) (o : SnapOrigin) (u : State) =>
      let d := restDir (s.axis a) t
      let plan := planLeg (s.axis a).settings (clampReach (s.axis a)) d t .toTarget .overshoot
      u.axis a = { s.axis a with
        state := .moving, phase := .accel, target := t, pendingTarget := none, origin := .user, speedClass := cls
        resume := if (s.axis a).state = .holding then .holding else .parked
        endResult := none, settleMove := false, granted := false
        dir := d, turnPoint := plan.1, leg := plan.2, profile := .accel, speed := 0, frac := 0 } ∧
      (∀ a', a' ≠ a → u.axis a' = s.axis a') ∧
      u.rlm = { s.rlm.setEntry (.axis a) (2 * (s.axis a).settings.run) with
        nextArrival := s.rlm.nextArrival + 1, grants := (s.now :: s.rlm.grants).take 4 } ∧
      u.drv = (driveRun a s).drv ∧ u.lmm = (pushHistory o s).lmm ∧
      u = { s with axc := u.axc, drv := u.drv, rlm := u.rlm, lmm := u.lmm, lnk := u.lnk }
    (motionCheck s a .absolute = none →
      let t := clampInt (s.axis a).settings.travelMin (s.axis a).settings.travelMax x.toInt
      zeroLength (s.axis a) t = false →
      ∃ u, exec (.axisMove p tag b x c) s = .next u ∧
        Replies p tag (.axisMove b x c) ⟨.accepted, clampedFlag (t ≠ x.toInt), []⟩ u ∧ starts t .move u) ∧
    (motionCheck s a .jog = none →
      let n := clampInt (-4000) 4000 x.toInt
      let t := clampReach (s.axis a) ((s.axis a).position + n)
      zeroLength (s.axis a) t = false →
      ∃ u, exec (.axisJog p tag b x c) s = .next u ∧
        Replies p tag (.axisJog b x c) ⟨.accepted,
          ⟨n ≠ x.toInt || t ≠ (s.axis a).position + n, false, false, coalesces (.jog a) s.lmm.history⟩, []⟩ u ∧
        starts t (.jog a) u)

/-- A home from rest (R5, R8, R16, R158): the referenced flag becomes false, FOC's base invalid, and the axis waits for
its grant with origin HOME at SLOW. With the calibration window open nothing is granted. -/
def Obligations.HomeFromRestUnreferencesAndWaits : Prop :=
  ∀ (p : Port) (tag b : Byte) (s : State) (a : Axis), LinkReady p s →
    axisOf b = some a → closedTo s p (axisCode a) = false →
    ((s.axis a).state = .parked ∨ (s.axis a).state = .holding) → motionCheck s a .home = none →
    s.drv.window.isSome = true → s.rlm.queue = [] →
    ∃ u, exec (.axisHome p tag b) s = .next u ∧ Replies p tag (.axisHome b) ⟨.accepted, noFlags, []⟩ u ∧
      (u.axis a).state = .waitStart ∧ (u.axis a).referenced = false ∧ (u.axis a).origin = .home ∧
      (u.axis a).speedClass = .slow ∧ (u.axis a).position = (s.axis a).position ∧
      (u.axis a).resume = (if (s.axis a).state = .holding then .holding else .parked) ∧
      u.rlm.queue = [⟨.axis a, .motor, (axisNeed s a).1, (axisNeed s a).2, s.rlm.nextArrival, s.now⟩] ∧
      u.rlm.sum = s.rlm.sum ∧ u.drv = s.drv ∧ u.fcp.baseValid = (s.fcp.baseValid && a ≠ .foc) ∧
      (∀ a', a' ≠ a → (u.axis a').position = (s.axis a').position ∧ (u.axis a').state = (s.axis a').state ∧
        (u.axis a').referenced = (s.axis a').referenced) ∧
      u = { s with axc := u.axc, rlm := u.rlm, fcp := u.fcp, lnk := u.lnk }

/-- AXIS_STOP, for one axis or for ALL, none of them waiting for a start (R12, R15, R75): each axis named that moves or
homes with no end decided yet decelerates to its stop point with end result STOPPED, and every other axis stays as it
is. A recall that is owed the stopped move fails; no other stop changes anything more. The stop point is clamped to the
range the axis has (the model's choice, log entry 23). On a ZOM or FOC axis that waits in WAIT_START de-energised (R10,
R15, R25, R75) the stop withdraws the start: the request leaves the queue, the axis is PARKED, and MOTION_DONE carries
STOPPED; a recall that is owed the move fails. An axis that is energised while it waits returns to SETTLING with a fresh
settle that belongs to no move, if it waited from there, and else is HOLDING, or PARKED when it is ZOM or FOC in EMERGENCY
or SHUTDOWN (R24); the lower of 2 × HOLD and its entry is the model's choice (log entry 31). The other requests stay in
the queue. A shift axis that was granted and waited for the brake cancels the release unless its partner waits for it too
(R40), and one that comes to HOLD beside a HOLDING partner, both under policy
PARK, has the brake asked to engage (R21, R42). An axis number outside the set is refused with RANGE. -/
def Obligations.StopDeceleratesToTheStopPoint : Prop :=
  (∀ (p : Port) (tag b : Byte) (s : State), LinkReady p s → stopAxes b = none →
     exec (.axisStop p tag b) s = .next (replied p tag (.axisStop b) (refuse .range) s)) ∧
  (∀ (p : Port) (tag b : Byte) (s : State) (l : List Axis), LinkReady p s → stopAxes b = some l → s.rlm.queue = [] →
    (∀ a ∈ l, (s.axis a).state ≠ .waitStart) →
    let stops := fun a => a ∈ l ∧ ((s.axis a).state = .moving ∨ (s.axis a).state = .homing) ∧ (s.axis a).endResult = none
    ∃ u, exec (.axisStop p tag b) s = .next u ∧ Replies p tag (.axisStop b) okAnswer u ∧
      (∀ a, stops a → u.axis a = { s.axis a with
        turnPoint := clampReach (s.axis a) ((s.axis a).position + (s.axis a).dir.sign * (stopDistance (s.axis a) : Nat))
        leg := .stop, profile := .decel, endResult := some .stopped
        phase := if (s.axis a).state = .moving then .decel else (s.axis a).phase }) ∧
      (∀ a, ¬stops a → u.axis a = s.axis a) ∧ u.rlm = s.rlm ∧ u.drv = s.drv ∧ u.brk = s.brk ∧ u.now = s.now ∧
      (∀ a, stops a → ((s.axis a).origin = .recalled ∨ (s.axis a).origin = .back) → (s.axis a).state = .moving →
        s.lmm.active = true → s.lmm.owed.get a = true → u.lmm.active = false ∧ u.lmm.staged = none) ∧
      (s.lmm.active = false → u = { s with axc := u.axc, lnk := u.lnk })) ∧
  (∀ (p : Port) (tag b : Byte) (s : State) (a : Axis) (q : StartReq), LinkReady p s → axisOf b = some a →
    partnerOf a = none → (s.axis a).state = .waitStart → (s.axis a).granted = false → energised s a = false →
    s.rlm.queue = [q] → q.requester = .axis a → s.start.stage = .done →
    ∃ u, exec (.axisStop p tag b) s = .next u ∧ Replies p tag (.axisStop b) okAnswer u ∧
      u.axis a = { s.axis a with state := .parked, pendingTarget := none, mustPark := false } ∧
      (∀ a', a' ≠ a → u.axis a' = s.axis a') ∧ u.rlm = { s.rlm.setEntry (.axis a) 0 with queue := [] } ∧
      u.brk = s.brk ∧ u.now = s.now ∧
      ((s.axis a).origin = .recalled ∨ (s.axis a).origin = .back → s.lmm.active = true → s.lmm.owed.get a = true →
        u.lmm.active = false ∧ u.lmm.staged = none) ∧
      (s.lmm.active = false → u.lmm = s.lmm ∧ u.geo = s.geo ∧
        ∀ n, n = .motionDone a (s.axis a).origin .stopped (s.axis a).position → Hears n (s.port p) →
          (u.port p).queue = [n])) ∧
  ∀ (p : Port) (tag b : Byte) (s : State) (a : Axis), LinkReady p s → axisOf b = some a →
    (s.axis a).state = .waitStart → energised s a = true ∨ isShift a = true → CoilsFollowTheStates s →
    (∀ x, (s.axis x).mustPark = false) → s.start.stage = .done → s.lmm.active = false →
    let r := s.axis a
    let last : Prop := r.granted = true ∧ ∀ q, partnerOf a = some q → (s.axis q).granted = false
    let alone : Prop := ∀ x ∈ s.rlm.queue, x.requester = .axis a ∨
      (x.requester = .brake ∧ last ∧ s.brk.releaseQueued = true)
    let blocked : Prop := (s.drv.window.isSome = true ∨ spacingAllows s.now s.rlm.grants = false) ∧
      ∀ x ∈ s.rlm.queue, x.cls ≠ .fan
    let behind := fun (l : List StartReq) => (l.map fun x => x.requester).filter fun c => c ≠ .axis a ∧ c ≠ .brake
    alone ∨ blocked →
    let off := fun (x : Axis) (u : State) => (u.axis x).state = .parked ∧ u.rlm.axes.get x = 0 ∧
      (u.chan (chansOf x).1).level = none ∧ (u.chan (chansOf x).2).level = none
    let drives := fun (v : Nat) (u : State) =>
      (u.chan (chansOf a).1).level = some v ∧ (u.chan (chansOf a).2).level = some v
    let holds := fun (u : State) => (u.axis a).state = .holding ∧ drives r.settings.hold u ∧
      u.rlm.axes.get a = min (2 * r.settings.hold) (s.rlm.axes.get a)
    let resumes : Prop := energised s a = true ∧ r.resume = .settling
    let rests : Prop := energised s a = true ∧ r.resume ≠ .settling
    ∃ u, exec (.axisStop p tag b) s = .next u ∧ Replies p tag (.axisStop b) okAnswer u ∧
      (alone → u.rlm.queue = []) ∧ (∀ x ∈ u.rlm.queue, x.requester ≠ .axis a) ∧
      behind u.rlm.queue = behind s.rlm.queue ∧
      u.now = s.now ∧ (u.axis a).pendingTarget = none ∧ (u.axis a).granted = false ∧
      (u.axis a).position = r.position ∧ (u.axis a).referenced = r.referenced ∧
      (∀ x, x ≠ a → partnerOf a ≠ some x → u.axis x = s.axis x) ∧ u.lmm = s.lmm ∧ u.geo = s.geo ∧
      (∀ n, n = .motionDone a r.origin .stopped r.position → Hears n (s.port p) → (u.port p).queue = [n]) ∧
      (energised s a = false → off a u) ∧
      (resumes → 0 < r.settings.settle → (u.axis a).state = .settling ∧ (u.axis a).settleMove = false ∧
        (u.axis a).settleEnd = s.now + r.settings.settle ∧ drives r.settings.run u ∧
        u.rlm.axes.get a = s.rlm.axes.get a) ∧
      (partnerOf a = none → u.brk = s.brk ∧
        (rests → regimeClosed s.ths.regime = true → off a u) ∧ (rests → regimeClosed s.ths.regime = false → holds u)) ∧
      (∀ q, partnerOf a = some q → (resumes → 0 < r.settings.settle) →
        let asks : Prop := rests ∧ (s.axis q).state = .holding ∧ r.settings.idle = .park ∧
          (s.axis q).settings.idle = .park
        (¬asks → u.axis q = s.axis q ∧ (rests → holds u) ∧
          u.brk = { s.brk with
            releaseQueued := if r.granted ∧ (s.axis q).granted = false ∧ s.brk.state = .engaged then false
              else s.brk.releaseQueued
            next := if r.granted ∧ (s.axis q).granted = false ∧ s.brk.state = .engaging then none else s.brk.next }) ∧
        (asks → s.brk.state = .released → holds u ∧ u.axis q = s.axis q ∧ (u.chan .ch8).level = none ∧
          u.rlm.brake = 0 ∧
          u.brk = { s.brk with state := .engaging, next := none, timer := some (s.now + s.brk.settings.engageTime) }) ∧
        (asks → s.brk.state = .releasing → holds u ∧ u.axis q = s.axis q ∧
          u.brk = { s.brk with next := some .engage }) ∧
        (asks → s.brk.state = .engaging → holds u ∧ u.axis q = s.axis q ∧ u.brk = { s.brk with next := none }) ∧
        (asks → s.brk.state = .faulted → s.brk.clampPending = true → holds u ∧ u.axis q = s.axis q ∧ u.brk = s.brk) ∧
        (asks → brakeClamped s.brk = true → off a u ∧ off q u ∧ u.brk.state = s.brk.state ∧
          (s.brk.state = .engaged → u.brk.releaseQueued = false)))

/-- AXIS_CONFIG_SET (R3) on a PARKED or FAULTED axis: from MAIN the protected fields keep their values and the reply
carries MASKED; a travel range that is empty is refused with RANGE; the rest is clamped and stored, and a referenced
position outside the new limits loses its reference. That the takeup length is signed is the model's choice (log
entry 20), and so is a HOLD compared with the RUN as already clamped (log entry 65). -/
def Obligations.AxisConfigSetStoresTheClampedSettings : Prop :=
  ∀ (p : Port) (tag b : Byte) (w : AxisConfigWire) (s : State) (a : Axis) (d : Dir) (i : IdlePolicy), LinkReady p s →
    axisOf b = some a → dirOf w.approach = some d → idleOf w.idle = some i →
    ((s.axis a).state ≠ .parked → (s.axis a).state ≠ .faulted →
      exec (.axisConfigSet p tag b w) s = .next (replied p tag (.axisConfigSet b w) (refuse .busy) s)) ∧
    (((s.axis a).state = .parked ∨ (s.axis a).state = .faulted) →
      let old := (s.axis a).settings
      let asked : AxisSettings :=
        { travelMin := if p = .main then old.travelMin else w.travelMin.toInt
          travelMax := if p = .main then old.travelMax else w.travelMax.toInt
          refPos := if p = .main then old.refPos else w.refPos.toInt
          run := if p = .main then old.run else w.run.toNat
          hold := if p = .main then old.hold else w.hold.toNat
          accel := if p = .main then old.accel else w.accel.toNat
          stall := if p = .main then old.stall else w.stall.toNat
          approach := d, takeup := w.takeup.toInt, idle := i, settle := w.settle.toNat }
      (asked.travelMax ≤ asked.travelMin →
        exec (.axisConfigSet p tag b w) s = .next (replied p tag (.axisConfigSet b w) (refuse .range) s)) ∧
      (asked.travelMin < asked.travelMax → s.rlm.queue = [] →
        let run := clampNat 100 900 asked.run
        let taken : AxisSettings := { asked with
          refPos := clampInt asked.travelMin asked.travelMax asked.refPos, run := run, hold := min asked.hold run
          accel := clampNat 1600 51200 asked.accel, takeup := clampInt 0 800 asked.takeup, settle := min asked.settle 1000 }
        ∃ u, exec (.axisConfigSet p tag b w) s = .next u ∧
          Replies p tag (.axisConfigSet b w) ⟨.ok, ⟨taken ≠ asked, p = .main, false, false⟩, []⟩ u ∧
          (u.axis a).settings = taken ∧
          (u.axis a).referenced = ((s.axis a).referenced && taken.travelMin ≤ (s.axis a).position &&
            (s.axis a).position ≤ taken.travelMax) ∧
          u.axis a = { s.axis a with settings := taken, referenced := (u.axis a).referenced } ∧
          (∀ a', a' ≠ a → u.axis a' = s.axis a') ∧
          u.fcp = { s.fcp with baseValid := s.fcp.baseValid && (a ≠ .foc || !(s.axis a).referenced ||
            (u.axis a).referenced) } ∧
          u = { s with axc := u.axc, fcp := u.fcp, lnk := u.lnk }))

/-- AXIS_CLEAR (R5, R26), from either port: an axis number outside the set is refused with RANGE; an axis that is not
FAULTED is left alone with OK; a DRIVER_HOT or RAIL_LOW cause that still stands is refused with STATE; otherwise the
latches of its two channels clear and it becomes PARKED and unreferenced. -/
def Obligations.AxisClearParksAFaultedAxis : Prop :=
  (∀ (p : Port) (tag b : Byte) (s : State), LinkReady p s → axisOf b = none →
    exec (.axisClear p tag b) s = .next (replied p tag (.axisClear b) (refuse .range) s)) ∧
  ∀ (p : Port) (tag b : Byte) (s : State) (a : Axis), LinkReady p s → axisOf b = some a →
    ((s.axis a).state ≠ .faulted → exec (.axisClear p tag b) s = .next (replied p tag (.axisClear b) okAnswer s)) ∧
    ((s.axis a).state = .faulted →
      ((s.axis a).faultCause = some .driverHot ∧ s.drv.driverHot = true ∨
       (s.axis a).faultCause = some .railLow ∧ s.drv.railLow = true →
        exec (.axisClear p tag b) s = .next (replied p tag (.axisClear b) (refuse .state) s)) ∧
      (¬((s.axis a).faultCause = some .driverHot ∧ s.drv.driverHot = true) →
       ¬((s.axis a).faultCause = some .railLow ∧ s.drv.railLow = true) →
        ∃ u, exec (.axisClear p tag b) s = .next u ∧ Replies p tag (.axisClear b) okAnswer u ∧
          u.axis a = { s.axis a with state := .parked, faultCause := none, referenced := false } ∧
          (∀ a', a' ≠ a → u.axis a' = s.axis a') ∧
          (∀ c, u.chan c = if ownerOf c = some a then
              { s.chan c with overcurrent := false, openLoad := false, calib := false } else s.chan c) ∧
          u.fcp = { s.fcp with baseValid := s.fcp.baseValid && a ≠ .foc } ∧
          u = { s with axc := u.axc, drv := { s.drv with chans := u.drv.chans }, fcp := u.fcp, lnk := u.lnk }))

/-! ### Invariants of the axes -/

/-- Two promises that every step keeps, the second one together with the first. The coils follow the states (R2, R27): an axis from HOMING to HOLDING has both
channels driven, one that is PARKED or FAULTED none; a latched channel is off and its owner FAULTED; CH8 is driven in
RELEASING and RELEASED alone (R41, R42), and both shift pairs are driven then (R43); no channel is driven while the
calibration window is open (R36, R37). And a referenced axis stands within its travel limits (R5), with the point its leg
runs to, its target and the target it waits with (R7, R12, R13, R17), and the legs of a home occur in HOMING alone (R16,
R17); the limits in force, stored and being saved are in order (R3, R181). -/
def Obligations.AxesKeepTheirCoilsAndTravel : Prop :=
  (∀ s t : State, CoilsFollowTheStates s → step s = .next t → CoilsFollowTheStates t) ∧
  ∀ s t : State, CoilsFollowTheStates s → TravelKept s → step s = .next t → TravelKept t

/-! ### Store writes -/

/-- A request whose reply follows a store write (R67, R68, R181): PRESET_STORE, PRESET_ERASE of a VALID slot and
SETTINGS_SAVE begin a write and leave the port busy; while a write runs each of the three is refused with BUSY.
PRESET_ERASE of an EMPTY slot is answered OK at once. -/
def Obligations.StoreRequestsBeginAWrite : Prop :=
  ∀ (p : Port) (tag : Byte) (s : State), LinkReady p s →
    let busy := fun (r : Request) (w : Write) => formAlert { received p tag r s with sto := { s.sto with write := some w } }
    (s.sto.write = none →
      exec (.settingsSave p tag) s = .next (busy .settingsSave (.save p (captureParts s))) ∧
      (closedTo s p 5 = false → ∀ b : Byte, b.toNat < 12 →
        ((s.lmm.presets.getD b.toNat emptyPreset).valid = true →
          exec (.presetErase p tag b) s = .next (busy (.presetErase b) (.preset p b.toNat emptyPreset))) ∧
        ((s.lmm.presets.getD b.toNat emptyPreset).valid = false →
          exec (.presetErase p tag b) s = .next (replied p tag (.presetErase b) okAnswer s)) ∧
        ∀ (mask geo : Byte) (label : List Byte), label.length ≤ 16 →
          (∀ c ∈ label, 32 ≤ c.toNat ∧ c.toNat ≤ 126) → mask.toNat < 16 → geo.toNat < 2 →
          ((∃ a, maskBit mask (axisCode a) = true ∧ (s.axis a).referenced = false) →
            exec (.presetStore p tag b mask geo label) s =
              .next (replied p tag (.presetStore b mask geo label) (refuse .state) s)) ∧
          ((∀ a, maskBit mask (axisCode a) = true → (s.axis a).referenced = true) →
            exec (.presetStore p tag b mask geo label) s = .next (busy (.presetStore b mask geo label)
              (.preset p b.toNat
                { valid := true, label := label
                  pos := ⟨if maskBit mask 0 then restingPosition s.axc.hsh else none,
                    if maskBit mask 1 then restingPosition s.axc.vsh else none,
                    if maskBit mask 2 then restingPosition s.axc.zom else none,
                    if maskBit mask 3 then (if s.fcp.enabled && s.fcp.baseValid then some s.fcp.base.toInt
                      else restingPosition s.axc.foc) else none⟩
                  focBase := maskBit mask 3 && s.fcp.enabled && s.fcp.baseValid
                  geom := if geo.toNat = 1 then some s.geo.live.geom else none }))))) ∧
    (s.sto.write.isSome = true →
      exec (.settingsSave p tag) s = .next (replied p tag .settingsSave (refuse .busy) s) ∧
      (closedTo s p 5 = false → ∀ b : Byte, b.toNat < 12 →
        exec (.presetErase p tag b) s = .next (replied p tag (.presetErase b) (refuse .busy) s) ∧
        ∀ (mask geo : Byte) (label : List Byte), label.length ≤ 16 → (∀ c ∈ label, 32 ≤ c.toNat ∧ c.toNat ≤ 126) →
          mask.toNat < 16 → exec (.presetStore p tag b mask geo label) s =
            .next (replied p tag (.presetStore b mask geo label) (refuse .busy) s)))

/-- The end of a store write (R68, R180, R181): a preset write puts the slot's new contents into the table and the
image, a SETTINGS_SAVE write puts the captured parts and the preset table into the image, each closed by the CRC of the
whole image (the byte layout under it is the model's choice, log entry 30), and the reply OK leaves on the
port that asked; the image that stands beside is a good one (log entry 18 says what a preset write puts beside a failed
one). With no write in progress, or one of the other kind, the command changes nothing (the model's choice, log
entry 2). -/
def Obligations.WriteEndsStoreAndReply : Prop :=
  (∀ s : State, LinkSettled s → s.sto.write = none →
    exec .presetWriteEnd s = .next (formAlert s) ∧ exec .settingsWriteEnd s = .next (formAlert s)) ∧
  ∀ (p : Port) (tag : Byte) (r : Request) (s : State), LinkSettled s →
    (s.port p).serving = some ⟨⟨tag, r⟩, none⟩ → (s.port p).waiting = none → (s.port p).replyReady = none →
    (s.port p).transmitter = none → s.lnk.arranged = none →
    (∀ (slot : Nat) (x : Preset), s.sto.write = some (.preset p slot x) → s.sto.image.good = true →
      exec .presetWriteEnd s = .next (replied p tag r okAnswer
        { s with
          lmm := { s.lmm with presets := s.lmm.presets.set slot x }
          sto := { s.sto with
            image := sealImage s.sto.image.parts (s.lmm.presets.set slot x), write := none } }) ∧
      exec .settingsWriteEnd s = .next (formAlert s)) ∧
    (∀ parts : SavedParts, s.sto.write = some (.save p parts) →
      exec .settingsWriteEnd s = .next (replied p tag r okAnswer
        { s with sto := { s.sto with image := sealImage parts s.lmm.presets, write := none } }) ∧
      exec .presetWriteEnd s = .next (formAlert s))

/-! ### Lens memory -/

/-- A recall that holds geometry and moves no axis makes that geometry live at once (R72, R73, R87, R97): in keystone
mode MANUAL the record of the slot is the live one, its quad is handed to the warp engine, and RECALL_DONE reports that
the geometry was made live. A recall of one lens position that ZOM must move to (R72, R78, R82): the reply is ACCEPTED,
CLAMPED when the travel limits clamp the target; ZOM alone is owed and waits for its grant with origin RECALL at NORMAL;
the recall is active, and the snapshot is pushed. With the window open nothing is granted. -/
def Obligations.RecallMakesGeometryLiveAndOwesItsAxes : Prop :=
  (∀ (p : Port) (tag b : Byte) (s : State) (g : Geom), LinkReady p s → closedTo s p 5 = false → b.toNat < 12 →
     s.ths.regime ≠ .emergency → s.ths.regime ≠ .shutdown → s.lmm.active = false → s.start.stage = .done →
     (s.lmm.presets.getD b.toNat emptyPreset).valid = true →
     (s.lmm.presets.getD b.toNat emptyPreset).pos = PerAxis.all none →
     (s.lmm.presets.getD b.toNat emptyPreset).geom = some g → g.mode = .manual → judgeQuad (quadOf g) = none →
     ∃ u, exec (.presetRecall p tag b) s = .next u ∧
       Replies p tag (.presetRecall b) ⟨.accepted, noFlags, []⟩ u ∧
       u.geo.live = { s.geo.live with geom := g } ∧ u.geo.quad = quadOf g ∧
       u.geo.permille = (permilleOf (quadOf g)).toNat ∧ u.geo.lastHanded = some (warpInput u.geo) ∧
       u.lmm.staged = none ∧ u.lmm.active = false ∧
       u.lmm.history = (snapshot s .recalled :: s.lmm.history).take 8 ∧
       (s.geo.lastHanded = some (warpInput u.geo) → u.wrp = s.wrp) ∧
       (s.geo.lastHanded ≠ some (warpInput u.geo) → u.wrp = takeInput s.now (warpInput u.geo) s.wrp) ∧
       (Hears (.recallDone .recalled none none none true) (s.port p) →
         (u.port p).queue = [.recallDone .recalled (some b.toNat) none none true]) ∧
       u = { s with lmm := u.lmm, geo := u.geo, wrp := u.wrp, lnk := u.lnk }) ∧
  (∀ (p : Port) (tag b : Byte) (s : State) (z : Int), LinkReady p s → closedTo s p 5 = false → b.toNat < 12 →
     s.ths.regime ≠ .emergency → s.ths.regime ≠ .shutdown → s.lmm.active = false →
     s.drv.driverHot = false → s.drv.railLow = false → s.axc.zom.referenced = true →
     (s.axc.zom.state = .parked ∨ s.axc.zom.state = .holding) → s.drv.window.isSome = true → s.rlm.queue = [] →
     (s.lmm.presets.getD b.toNat emptyPreset).valid = true →
     (s.lmm.presets.getD b.toNat emptyPreset).pos = ⟨none, none, some z, none⟩ →
     (s.lmm.presets.getD b.toNat emptyPreset).geom = none →
     let t := clampInt s.axc.zom.settings.travelMin s.axc.zom.settings.travelMax z
     t ≠ s.axc.zom.position →
     ∃ u, exec (.presetRecall p tag b) s = .next u ∧
       Replies p tag (.presetRecall b) ⟨.accepted, clampedFlag (t ≠ z), []⟩ u ∧
       u.lmm = { s.lmm with
         history := (snapshot s .recalled :: s.lmm.history).take 8
         discards := if s.lmm.history.length < 8 then s.lmm.discards else satSucc 65535 s.lmm.discards
         active := true, kind := .recalled, slot := some b.toNat, owed := ⟨false, false, true, false⟩, staged := none } ∧
       u.axc.zom.state = .waitStart ∧ u.axc.zom.pendingTarget = some t ∧ u.axc.zom.origin = .recalled ∧
       u.axc.zom.speedClass = .normal ∧ u.axc = s.axc.set .zom u.axc.zom ∧
       u.rlm.queue = [⟨.axis .zom, .motor, (axisNeed s .zom).1, false, s.rlm.nextArrival, s.now⟩] ∧
       u = { s with axc := u.axc, rlm := u.rlm, lmm := u.lmm, lnk := u.lnk })

/-- HISTORY_BACK (R80): an empty stack is answered EMPTY; with an axis in motion or a recall active it is BUSY; else the
top snapshot is taken off the stack, and one that holds no position and manual geometry makes that geometry live at
once with a RECALL_DONE of kind BACK. That the record keeps the kind BACK afterwards is the model's choice (log
entry 56). -/
def Obligations.HistoryBackTakesTheTopSnapshot : Prop :=
  ∀ (p : Port) (tag : Byte) (s : State), LinkReady p s → closedTo s p 5 = false →
    (s.lmm.history = [] → exec (.historyBack p tag) s = .next (replied p tag .historyBack (refuse .empty) s)) ∧
    (∀ x rest, s.lmm.history = x :: rest →
      ((s.lmm.active = true ∨ ∃ a, (s.axis a).state = .moving ∨ (s.axis a).state = .waitStart ∨
          (s.axis a).state = .homing) →
        exec (.historyBack p tag) s = .next (replied p tag .historyBack (refuse .busy) s)) ∧
      (s.lmm.active = false →
        (∀ a, (s.axis a).state ≠ .moving ∧ (s.axis a).state ≠ .waitStart ∧ (s.axis a).state ≠ .homing) →
        (s.ths.regime = .emergency ∨ s.ths.regime = .shutdown →
          exec (.historyBack p tag) s = .next (replied p tag .historyBack (refuse .thermal) s)) ∧
        (s.ths.regime ≠ .emergency → s.ths.regime ≠ .shutdown → s.start.stage = .done → x.pos = PerAxis.all none →
          x.geom.mode = .manual → judgeQuad (quadOf x.geom) = none →
          ∃ u, exec (.historyBack p tag) s = .next u ∧
            Replies p tag .historyBack ⟨.accepted, noFlags, []⟩ u ∧ u.lmm.history = rest ∧ u.lmm.kind = .back ∧
            u.lmm.active = false ∧ u.lmm.staged = none ∧ u.lmm.discards = s.lmm.discards ∧
            u.lmm.presets = s.lmm.presets ∧ u.geo.live = { s.geo.live with geom := x.geom } ∧
            u.geo.lastHanded = some (warpInput u.geo) ∧
            (Hears (.recallDone .back none none none true) (s.port p) →
              (u.port p).queue = [.recallDone .back none none none true]) ∧
            u = { s with lmm := u.lmm, geo := u.geo, wrp := u.wrp, lnk := u.lnk })))

/-! ### Geometry and warp requests -/

/-- CORNER_SET (R88): a corner outside 0 to 3 is refused with RANGE; offsets are clamped to ±960 and ±540; a record
whose quad fails the acceptance test is refused with GEOMETRY and changes nothing; otherwise the record on which the
request acts takes the corner, a snapshot is pushed (or coalesced), and a live record's new quad is handed. KEYSTONE_SET
(R89): MANUAL clamps V to ±400, is refused with GEOMETRY when the quad fails, and otherwise replaces mode and V and ends
a hold; AUTO keeps V and makes an evaluation due. The record is the staged geometry when present, and no snapshot is
pushed. A GEOMETRY refusal carries the reason and the area permille, which the model carries as a signed value (the
model's choice, log entry 22). MOUNT_SET and WARP_MODE_SET (R90, R91) set their mode in the live record; the effective
orientation follows the mount mode, and a warp input that differs from the one handed last is handed at once (R87). What
the warp engine makes of an input handed by any of them: in warp mode ACTIVE the coefficients of the accepted quad (R100,
R101, R102), in BYPASS the identity (R103), with the next SEQ, kept as the last warp and sent at once or, in POSTED, put in
the pending slot (R104, R106, R107); its frame is 54 bytes with the check over the first 52 (R105). -/
def Obligations.GeometryRequestsAreJudgedAndHanded : Prop :=
  ((∀ (p : Port) (tag c : Byte) (dx dy : Half) (s : State), LinkReady p s → closedTo s p 4 = false →
     let d : Pt := ⟨clampInt (-960) 960 dx.toInt, clampInt (-540) 540 dy.toInt⟩
     let k := s.lmm.staged.getD s.geo.live.geom
     let moved : Quad :=
       ⟨if c.toNat = 0 then d else k.corners.p0, if c.toNat = 1 then d else k.corners.p1,
        if c.toNat = 2 then d else k.corners.p2, if c.toNat = 3 then d else k.corners.p3⟩
     let g : Geom := { k with corners := moved }
     (4 ≤ c.toNat → exec (.cornerSet p tag c dx dy) s = .next (replied p tag (.cornerSet c dx dy) (refuse .range) s)) ∧
     (c.toNat < 4 →
       (∀ why, judgeQuad (quadOf g) = some why →
         exec (.cornerSet p tag c dx dy) s = .next (replied p tag (.cornerSet c dx dy)
           ⟨.geometry, noFlags, [.u8 (quadReasonCode why), .i16 (permilleOf (quadOf g))]⟩ s)) ∧
       (judgeQuad (quadOf g) = none →
         ∃ u, exec (.cornerSet p tag c dx dy) s = .next u ∧
           Replies p tag (.cornerSet c dx dy)
             ⟨.ok, ⟨d.x ≠ dx.toInt || d.y ≠ dy.toInt, false, s.lmm.staged.isSome, coalesces .corner s.lmm.history⟩, []⟩ u ∧
           u.lmm.history = (pushHistory .corner s).lmm.history ∧
           (s.lmm.staged.isSome = true → u.lmm.staged = some g ∧ u.geo = s.geo ∧ u.wrp = s.wrp) ∧
           (s.lmm.staged = none → u.lmm.staged = none ∧ u.geo.live = { s.geo.live with geom := g } ∧
             u.geo.quad = quadOf g ∧ u.geo.permille = (permilleOf (quadOf g)).toNat ∧
             u.geo.lastHanded = some (warpInput u.geo) ∧
             (s.geo.lastHanded = some (warpInput u.geo) → u.wrp = s.wrp) ∧
             (s.geo.lastHanded ≠ some (warpInput u.geo) → u.wrp = takeInput s.now (warpInput u.geo) s.wrp)) ∧
           u = { s with lmm := u.lmm, geo := u.geo, wrp := u.wrp, lnk := u.lnk }))) ∧
   ∀ (p : Port) (tag b : Byte) (v : Half) (s : State), LinkReady p s → closedTo s p 4 = false →
     let k := s.lmm.staged.getD s.geo.live.geom
     let v' := clampInt (-400) 400 v.toInt
     let g : Geom := { k with mode := .manual, v := v' }
     (2 ≤ b.toNat → exec (.keystoneSet p tag b v) s = .next (replied p tag (.keystoneSet b v) (refuse .range) s)) ∧
     (∀ why, b.toNat = 0 → judgeQuad (quadOf g) = some why →
       exec (.keystoneSet p tag b v) s = .next (replied p tag (.keystoneSet b v)
         ⟨.geometry, noFlags, [.u8 (quadReasonCode why), .i16 (permilleOf (quadOf g))]⟩ s)) ∧
     (b.toNat = 0 → judgeQuad (quadOf g) = none →
       ∃ u, exec (.keystoneSet p tag b v) s = .next u ∧
         Replies p tag (.keystoneSet b v) ⟨.ok, ⟨v' ≠ v.toInt, false, s.lmm.staged.isSome, false⟩, []⟩ u ∧
         u.geo.geomHold = false ∧ u.geo.refreshDue = false ∧ u.lmm.history = s.lmm.history ∧
         (s.lmm.staged.isSome = true → u.lmm.staged = some g ∧ u.geo.live = s.geo.live ∧ u.wrp = s.wrp) ∧
         (s.lmm.staged = none → u.lmm = s.lmm ∧ u.geo.live = { s.geo.live with geom := g } ∧ u.geo.quad = quadOf g ∧
           u.geo.permille = (permilleOf (quadOf g)).toNat ∧ u.geo.lastHanded = some (warpInput u.geo) ∧
           (s.geo.lastHanded = some (warpInput u.geo) → u.wrp = s.wrp) ∧
           (s.geo.lastHanded ≠ some (warpInput u.geo) → u.wrp = takeInput s.now (warpInput u.geo) s.wrp)) ∧
         u = { s with lmm := u.lmm, geo := u.geo, wrp := u.wrp, lnk := u.lnk }) ∧
     (b.toNat = 1 →
       ∃ u, exec (.keystoneSet p tag b v) s = .next u ∧
         Replies p tag (.keystoneSet b v) ⟨.ok, ⟨false, false, s.lmm.staged.isSome, false⟩, []⟩ u ∧
         u.geo.refreshDue = true ∧ u.lmm.history = s.lmm.history ∧
         (s.lmm.staged.isSome = true → u.lmm.staged = some { k with mode := .auto } ∧ u.geo.live = s.geo.live) ∧
         (s.lmm.staged = none → u.lmm = s.lmm ∧ u.geo.live = { s.geo.live with geom := { k with mode := .auto } }) ∧
         u = { s with lmm := u.lmm, geo := u.geo, lnk := u.lnk })) ∧
  (∀ (p : Port) (tag b : Byte) (s : State), LinkReady p s → closedTo s p 4 = false →
     (∀ m, mountOf b = some m →
       ∃ u, exec (.mountSet p tag b) s = .next u ∧ Replies p tag (.mountSet b) okAnswer u ∧
         u.geo.live = { s.geo.live with mount := m } ∧ u.geo.orientation = orientationOf m s.ssc.detected ∧
         u.ssc = { s.ssc with effective := orientationOf m s.ssc.detected } ∧
         u.geo.lastHanded = some (warpInput u.geo) ∧
         (s.geo.lastHanded = some (warpInput u.geo) → u.wrp = s.wrp) ∧
         (s.geo.lastHanded ≠ some (warpInput u.geo) → u.wrp = takeInput s.now (warpInput u.geo) s.wrp) ∧
         u = { s with geo := u.geo, ssc := u.ssc, wrp := u.wrp, lnk := u.lnk }) ∧
     (∀ m, warpModeOf b = some m →
       ∃ u, exec (.warpModeSet p tag b) s = .next u ∧ Replies p tag (.warpModeSet b) okAnswer u ∧
         u.geo = { s.geo with live := { s.geo.live with warp := m }, lastHanded := some (warpInput u.geo) } ∧
         (s.geo.lastHanded = some (warpInput u.geo) → u.wrp = s.wrp) ∧
         (s.geo.lastHanded ≠ some (warpInput u.geo) → u.wrp = takeInput s.now (warpInput u.geo) s.wrp) ∧
         u = { s with geo := u.geo, wrp := u.wrp, lnk := u.lnk }) ∧
     (mountOf b = none → exec (.mountSet p tag b) s = .next (replied p tag (.mountSet b) (refuse .range) s)) ∧
     (warpModeOf b = none → exec (.warpModeSet p tag b) s = .next (replied p tag (.warpModeSet b) (refuse .range) s))) ∧
  ∀ (now : Nat) (g : Geo) (r : Wrp), judgeQuad g.quad = none →
    let q := g.quad
    let ceiling := decide (g.orientation = .ceiling)
    let dx1 := q.p1.x - q.p2.x
    let dx2 := q.p3.x - q.p2.x
    let dx3 := q.p0.x - q.p1.x + q.p2.x - q.p3.x
    let dy1 := q.p1.y - q.p2.y
    let dy2 := q.p3.y - q.p2.y
    let dy3 := q.p0.y - q.p1.y + q.p2.y - q.p3.y
    let term := fun (n : Int) =>
      if dx3 = 0 ∧ dy3 = 0 then 0 else roundDiv (n * 16777216) (dx1 * dy2 - dx2 * dy1)
    let gq := term (dx3 * dy2 - dx2 * dy3)
    let hq := term (dx1 * dy3 - dx3 * dy1)
    let linear := fun (start stop t : Int) => (stop - start) * 256 + roundDiv (t * stop) 65536
    let two := fun (z : Int) => [BitVec.ofInt 8 z, BitVec.ofInt 8 (z / 256)]
    let four := fun (z : Int) => two z ++ two (z / 65536)
    let t := takeInput now (warpInput g) r
    ∃ w : Warp, t.last = some w ∧ t = { r with
        nextSeq := r.nextSeq + 1, last := some w
        link := .posted
        sent := if r.link = .posted then r.sent else some w
        ackTimer := if r.link = .posted then r.ackTimer else some (now + 120)
        pending := if r.link = .posted then some w else r.pending } ∧
      (g.live.warp = .active → w =
        { seq := r.nextSeq, bypass := false, ceiling := ceiling, permille := g.permille, quad := q
          a := linear q.p0.x q.p1.x gq, b := linear q.p0.x q.p3.x hq, c := q.p0.x * 256
          d := linear q.p0.y q.p1.y gq, e := linear q.p0.y q.p3.y hq, f := q.p0.y * 256, g := gq, h := hq }) ∧
      (g.live.warp = .bypass → w =
        { seq := r.nextSeq, bypass := true, ceiling := ceiling, permille := 1000
          quad := ⟨⟨0, 0⟩, ⟨3840, 0⟩, ⟨3840, 2160⟩, ⟨0, 2160⟩⟩
          a := 983040, b := 0, c := 0, d := 0, e := 552960, f := 0, g := 0, h := 0 }) ∧
      let k := w.quad
      let body : List Byte := [w.seq, BitVec.ofNat 8 ((if w.bypass then 1 else 0) + (if w.ceiling then 2 else 0))] ++
        two w.permille ++ two k.p0.x ++ two k.p0.y ++ two k.p1.x ++ two k.p1.y ++ two k.p2.x ++ two k.p2.y ++
        two k.p3.x ++ two k.p3.y ++ four w.a ++ four w.b ++ four w.c ++ four w.d ++ four w.e ++ four w.f ++ four w.g ++
        four w.h
      warpFrame w = body ++ crcBytes body ∧ (warpFrame w).length = 54

/-! ### Fan, thermal, focus, table and budget requests -/

/-- FAN_CONFIG_SET from SERVICE (R140): temperatures and duties are clamped, a curve whose temperatures do not rise
strictly is refused with RANGE, and otherwise both curves of the fan are replaced, and LIGHT_FF with FAN0's. FAN_CLEAR
clears FAN_FAULT and the low count of the fans it names (R139). No duty changes. That LIGHT_FF is read unsigned (log
entry 20) and that ALL is code 3 (log entry 21) is the model's choice. -/
def Obligations.FanRequestsSetCurvesAndClearFaults : Prop :=
  ∀ (tag b : Byte) (s : State),
    (∀ (f : Fan) (fl ce : CurveWire) (l : Half), LinkReady .service s → fanOf b = some f →
      let point := fun w : PointWire => (⟨clampInt (-400) 2000 w.temp.toInt, min w.duty.toNat 1000⟩ : Point)
      let curve := fun w : CurveWire => (⟨point w.p1, point w.p2, point w.p3, point w.p4, point w.p5⟩ : Curve)
      let rises := fun c : Curve => c.p1.t < c.p2.t ∧ c.p2.t < c.p3.t ∧ c.p3.t < c.p4.t ∧ c.p4.t < c.p5.t
      (¬(rises (curve fl) ∧ rises (curve ce)) →
        exec (.fanConfigSet .service tag b fl ce l) s =
          .next (replied .service tag (.fanConfigSet b fl ce l) (refuse .range) s)) ∧
      (rises (curve fl) → rises (curve ce) →
        ∃ u, exec (.fanConfigSet .service tag b fl ce l) s = .next u ∧
          Replies .service tag (.fanConfigSet b fl ce l)
            ⟨.ok, clampedFlag (curve fl ≠ wireCurve fl || curve ce ≠ wireCurve ce || 500 < l.toNat), []⟩ u ∧
          u.fan = { s.fan with
            curves := s.fan.curves.set f ⟨curve fl, curve ce⟩
            lightFF := if f = .fan0 then min l.toNat 500 else s.fan.lightFF } ∧
          u = { s with fan := u.fan, lnk := u.lnk })) ∧
    (∀ (p : Port) (l : List Fan), LinkReady p s → clearFans b = some l →
      ∃ u, exec (.fanClear p tag b) s = .next u ∧ Replies p tag (.fanClear b) okAnswer u ∧
        (∀ f, u.fanRec f = if f ∈ l then { s.fanRec f with fanFault := false, lowCount := 0 } else s.fanRec f) ∧
        u = { s with fan := { s.fan with recs := u.fan.recs }, lnk := u.lnk })

/-- LIGHT_DEMAND_SET (R152): an enable byte outside 0 and 1 is refused with RANGE, and enable in SHUTDOWN with THERMAL,
changing nothing; otherwise demand, enable flag and LSEN are set, and the reply carries the granted demand, L and the
regime. SHUTDOWN_CLEAR (R145, R149): outside SHUTDOWN it is OK and changes nothing; in SHUTDOWN, with a used temperature
not below its WARN less the hysteresis, a faulted sensor, or FAN0's FAN_FAULT set, it is refused with STATE and carries
the used temperatures; else the regime becomes the raw level with the cause cleared, and LSEN stays deasserted. That the
raw level is formed again, with the limits and the latches as they stand, is the model's choice (log entry 34), and so
are the demand read unsigned (log entry 20), two bytes for the granted value and L (log entry 22), and LSEN set also
before the first published set (log entry 62). -/
def Obligations.LightAndShutdownRequestsGuardTheLight : Prop :=
  ∀ (p : Port) (tag e : Byte) (d : Half) (s : State), LinkReady p s →
    (2 ≤ e.toNat →
      exec (.lightDemandSet p tag d e) s = .next (replied p tag (.lightDemandSet d e) (refuse .range) s)) ∧
    (e.toNat = 1 → s.ths.regime = .shutdown →
      exec (.lightDemandSet p tag d e) s = .next (replied p tag (.lightDemandSet d e) (refuse .thermal) s)) ∧
    (e.toNat = 0 ∨ (e.toNat = 1 ∧ s.ths.regime ≠ .shutdown) →
      let n := min d.toNat 1000
      exec (.lightDemandSet p tag d e) s = .next (replied p tag (.lightDemandSet d e)
        ⟨.ok, clampedFlag (n ≠ d.toNat), [.u16 (min n s.ths.limit), .u16 s.ths.limit, .u8 (regimeCode s.ths.regime)]⟩
        { s with ths := { s.ths with lightDemand := n, lightEnable := e.toNat = 1, lsen := e.toNat = 1 } })) ∧
    (s.ths.regime ≠ .shutdown → exec (.shutdownClear p tag) s = .next (replied p tag .shutdownClear okAnswer s)) ∧
    (∀ u, s.ths.regime = .shutdown → s.ths.used = some u →
      let cool : Prop := (∀ x ∈ (u.zipWith (fun (a : Used) (l : Limit) => (a, l)) s.ths.limits).toList,
        x.1.temp < x.2.warn - s.ths.hyst ∧ x.1.faulted = false) ∧ s.fan.recs.fan0.fanFault = false
      (¬cool → exec (.shutdownClear p tag) s = .next (replied p tag .shutdownClear
        ⟨.state, noFlags, u.toList.map fun x => .i16 x.temp⟩ s)) ∧
      (cool → LimitsOrdered s → s.rlm.queue = [] →
        ∃ t, exec (.shutdownClear p tag) s = .next t ∧ Replies p tag .shutdownClear okAnswer t ∧
          t.ths.regime = rawLevel u s.ths.limits (fanLatches s) ∧ t.ths.regime ≠ .shutdown ∧
          t.ths.regime ≠ .emergency ∧ t.ths.causeCrit = PerThermo.all false ∧ t.ths.causeEmergency = false ∧
          t.ths.lsen = s.ths.lsen ∧ t.ths.lightEnable = s.ths.lightEnable ∧ t.axc = s.axc ∧
          t = { s with ths := t.ths, fan := t.fan, rlm := t.rlm, lnk := t.lnk, draw := t.draw }))

/-- QUIET_SET (R134, R136, R150, R151, R153): a value outside its set is refused with RANGE; otherwise the quiet level
and the cap priority are set in every regime, which stays. The cap of the new level is in force in QUIET, and in LIMITED
under QUIET_FIRST, and no cap elsewhere: a fan whose applied duty exceeds its new cap is lowered to it at once, and no
duty rises. L is formed from the excess, the regime and the new priority, and a LIGHT_LIMIT notice tells it when it stands
50 or more from the last notified value. That the entry of a lowered duty is never raised by the report is the model's
choice (log entry 31), and so is L left open beyond an excess of 250 (log entry 33). -/
def Obligations.QuietSetLowersDutiesToTheNewCaps : Prop :=
  ∀ (p : Port) (tag q c : Byte) (s : State), LinkReady p s →
    (quietOf q = none ∨ priorityOf c = none →
      exec (.quietSet p tag q c) s = .next (replied p tag (.quietSet q c) (refuse .range) s)) ∧
    (∀ lvl pr, quietOf q = some lvl → priorityOf c = some pr → s.rlm.queue = [] →
      let x := excessOf s.ths
      let capped : Prop := s.ths.regime = .quiet ∨ (s.ths.regime = .limited ∧ pr = .quietFirst)
      ∃ u, exec (.quietSet p tag q c) s = .next u ∧ Replies p tag (.quietSet q c) okAnswer u ∧
        u.ths.quiet = lvl ∧ u.ths.priority = pr ∧ u.ths.regime = s.ths.regime ∧ u.ths.excess = x ∧
        (s.ths.regime = .quiet ∨ (s.ths.regime = .limited ∧ pr = .coolFirst) → u.ths.limit = 1000) ∧
        (s.ths.regime = .override ∨ (s.ths.regime = .limited ∧ pr = .quietFirst) → x ≤ 250 →
          u.ths.limit = 1000 - 4 * x) ∧
        (s.ths.regime = .emergency → u.ths.limit = 200) ∧ (s.ths.regime = .shutdown → u.ths.limit = 0) ∧
        (apart u.ths.limit s.ths.notified < 50 → u.ths.notified = s.ths.notified ∧ ∀ y, (u.port y).queue = (s.port y).queue) ∧
        (50 ≤ apart u.ths.limit s.ths.notified → u.ths.notified = u.ths.limit ∧
          ∀ n, n = .lightLimit u.ths.limit s.ths.regime pr x → ∀ y, (s.port y).Idle → Hears n (s.port y) →
            n ∈ (u.port y).queue ∨ (u.port y).transmitter = some (.notice n)) ∧
        (∀ f, (u.fanRec f).state = (s.fanRec f).state ∧
          (capped → (u.fanRec f).applied = min (s.fanRec f).applied (quietCap lvl f) ∧
            (u.fanRec f).cap = some (quietCap lvl f) ∧
            (u.fanRec f).capped = decide (quietCap lvl f < (s.fanRec f).demand)) ∧
          (¬capped → (u.fanRec f).applied = (s.fanRec f).applied ∧ (u.fanRec f).cap = none ∧
            (u.fanRec f).capped = false)) ∧
        (∀ f, (s.fanRec f).state = .running →
          u.rlm.fans.get f = min (fanEntry f (u.fanRec f).applied) (s.rlm.fans.get f)) ∧
        (∀ f, (s.fanRec f).state ≠ .running → u.rlm.fans.get f = s.rlm.fans.get f) ∧
        u.rlm.axes = s.rlm.axes ∧ u.rlm.brake = s.rlm.brake ∧
        u = { s with ths := u.ths, fan := u.fan, rlm := u.rlm, lnk := u.lnk })

/-- THERMAL_LIMIT_SET (R154): from MAIN it changes nothing and is answered OK with MASKED. From SERVICE thresholds are
clamped to -400..2000 and the hysteresis to 0..100; a sensor whose thresholds are not in order, or whose CRIT lies more
than 200 above its WARN, refuses the whole request with RANGE; otherwise the table and the hysteresis are replaced, the
regime waits for the next scan, and L is formed again from the used temperatures that stand, the new WARN values, the
regime and the cap priority (R150). When it stands 50 or more from the last notified value, a LIGHT_LIMIT notice tells it
and it becomes the last notified one (R151). FAN takes the new HIGH values for its substitution (R131), and a SETTINGS_SAVE
captures the new table. Nothing is said here of L beyond an excess of 250, where R150 gives none
(log entry 33). -/
def Obligations.ThermalLimitSetReplacesTheTable : Prop :=
  (∀ (tag : Byte) (w : LimitsWire) (s : State), LinkReady .main s →
    exec (.thermalLimitSet .main tag w) s = .next (replied .main tag (.thermalLimitSet w) maskedAnswer s)) ∧
  ∀ (tag : Byte) (w : LimitsWire) (s : State), LinkReady .service s →
    let c := fun h : Half => clampInt (-400) 2000 h.toInt
    let taken := w.sensors.map fun l => (⟨c l.warn, c l.high, c l.crit⟩ : Limit)
    let ordered := ∀ l ∈ taken.toList, l.warn < l.high ∧ l.high < l.crit ∧ l.crit ≤ l.warn + 200
    (¬ordered →
      exec (.thermalLimitSet .service tag w) s = .next (replied .service tag (.thermalLimitSet w) (refuse .range) s)) ∧
    (ordered →
      ∃ u, exec (.thermalLimitSet .service tag w) s = .next u ∧
        Replies .service tag (.thermalLimitSet w)
          ⟨.ok, clampedFlag (taken ≠ w.sensors.map wireLimit || clampInt 0 100 w.hyst.toInt ≠ w.hyst.toInt), []⟩ u ∧
        u.ths.limits = taken ∧ u.ths.hyst = clampInt 0 100 w.hyst.toInt ∧ u.ths.regime = s.ths.regime ∧
        u.ths.raw = s.ths.raw ∧ u.ths.used = s.ths.used ∧ u.ths.excess = excessOf u.ths ∧
        (s.ths.regime = .quiet ∨ (s.ths.regime = .limited ∧ s.ths.priority = .coolFirst) → u.ths.limit = 1000) ∧
        (s.ths.regime = .override ∨ (s.ths.regime = .limited ∧ s.ths.priority = .quietFirst) → u.ths.excess ≤ 250 →
          u.ths.limit = 1000 - 4 * u.ths.excess) ∧
        (s.ths.regime = .emergency → u.ths.limit = 200) ∧ (s.ths.regime = .shutdown → u.ths.limit = 0) ∧
        (apart u.ths.limit s.ths.notified < 50 → u.ths.notified = s.ths.notified ∧
          ∀ y, (u.port y).queue = (s.port y).queue) ∧
        (50 ≤ apart u.ths.limit s.ths.notified → u.ths.notified = u.ths.limit ∧
          ∀ n, n = .lightLimit u.ths.limit s.ths.regime s.ths.priority u.ths.excess →
            ∀ y, (s.port y).Idle → Hears n (s.port y) →
              n ∈ (u.port y).queue ∨ (u.port y).transmitter = some (.notice n)) ∧
        u.ths = { s.ths with
          limits := u.ths.limits, hyst := u.ths.hyst, excess := u.ths.excess, limit := u.ths.limit
          notified := u.ths.notified } ∧
        (∀ q, s.ssc.published = some q →
          let temp := q.chans.thermo.zipWith
            (fun x (l : Limit) => if x.flag = .ok then x.value.getD l.high else l.high) taken
          mappedTemps u .fan0 = [temp.lsb, temp.img] ∧ mappedTemps u .fan1 = [temp.ain, temp.psu] ∧
          mappedTemps u .fan2 = [temp.aex, temp.lsb]) ∧
        (captureParts u).settings.limits = taken ∧ (captureParts u).settings.hyst = clampInt 0 100 w.hyst.toInt ∧
        u = { s with ths := u.ths, lnk := u.lnk })

/-- TABLE_SET from SERVICE (R39, R96, R121, R123, R157, R177): every entry is clamped into the table's range, CLAMPED
says whether one was, and the owner takes the table: CONVERSION empties the thermistor lines, TILT_ZERO the TLX line,
TILT and ZOOM_FACTOR make an evaluation due, BRAKE replaces the brake settings, and FOCUS_COMP and FOCUS_ZOOM form
offset_now again from the published LNS value, when it is good, and the present zoom band; the base stays. In BRAKE a
HOLD above the HIT current is clamped to it; that it is compared with the HIT as already clamped is the model's choice
(log entry 67). -/
def Obligations.TableSetGivesTheOwnerItsTable : Prop :=
  ∀ (tag b : Byte) (l : List Half) (id : TableId) (s : State), LinkReady .service s → tableOf b = some id →
    l.length = tableSize id → s.rlm.queue = [] →
    let given := l.map fun h => h.toInt
    let taken := acceptedEntries id given
    ∃ u, exec (.tableSet .service tag b l) s = .next u ∧
      Replies .service tag (.tableSet b l) ⟨.ok, clampedFlag (taken ≠ given), []⟩ u ∧ tableEntries u id = taken ∧
      (∀ id', id' ≠ id → tableEntries u id' = tableEntries s id') ∧
      (∀ i, i < tableSize id → id ≠ .brake →
        taken.getD i 0 = clampInt (tableRange id i).1 (tableRange id i).2 ((l.getD i 0).toInt)) ∧
      (id = .brake →
        let wire := fun (i : Nat) => (l.getD i 0).toInt
        let hit := clampInt 400 1200 (wire 0)
        taken = [hit, min (clampInt 100 600 (wire 1)) hit, clampInt 10 200 (wire 2), clampInt 10 200 (wire 3)]) ∧
      (id = .conversion → ∀ r ∈ u.ssc.chans.thermo.toList, r.filled = false ∧ r.smoothed = none) ∧
      (id = .tiltZero → u.ssc.chans.tlx.filled = false ∧ u.ssc.chans.tlx.smoothed = none) ∧
      (id = .tilt ∨ id = .zoomFactor → u.geo.refreshDue = true) ∧
      (let focal : Prop := id = .focusComp ∨ id = .focusZoom
       let good := s.ssc.published.bind fun z => if z.chans.thermo.lns.flag = .ok then z.chans.thermo.lns.value else none
       let at' := fun (i : Nat) => u.fcp.comp.getD i 0
       let fifty := fun (x : Int) =>
         if x ≤ 100 then 50 * at' 0 else if 500 ≤ x then 50 * at' 8
         else
           let i := ((x - 100) / 50).toNat
           50 * at' i + (at' (i + 1) - at' i) * (x - (100 + 50 * (i : Int)))
       (∀ x, focal → good = some x →
         u.fcp = { s.fcp with
           comp := u.fcp.comp, zoom := u.fcp.zoom, offsetKnown := true, lnsUsed := some x
           offsetNow := roundDiv (fifty x * u.fcp.zoom.getD (zoomBand s) 0) (50 * 4096) }) ∧
       (¬focal ∨ good = none →
         u.fcp = { s.fcp with comp := u.fcp.comp, zoom := u.fcp.zoom })) ∧ u.rlm = s.rlm ∧ u.axc = s.axc ∧
      u = { s with ssc := u.ssc, geo := u.geo, fcp := u.fcp, brk := { s.brk with settings := u.brk.settings },
                   lnk := u.lnk }

/-- BUDGET_SET from SERVICE (R49): the value is clamped to 1,000..4,000 mA; one below the present sum is refused with
STATE; else it is the budget, and a budget held up is so no more. COMP_SET (R163): from MAIN the deadband keeps its value
and the reply carries MASKED; from SERVICE it is clamped to 1..400; the enable byte must be 0 or 1; no move starts. That
budget and deadband are read unsigned is the model's choice (log entry 20). -/
def Obligations.BudgetAndCompensationAreSet : Prop :=
  (∀ (tag : Byte) (b : Half) (s : State), LinkReady .service s →
    let v := clampNat 1000 4000 b.toNat
    (v < s.rlm.sum → exec (.budgetSet .service tag b) s =
      .next (replied .service tag (.budgetSet b) (refuse .state) s)) ∧
    (s.rlm.sum ≤ v → s.rlm.queue = [] → exec (.budgetSet .service tag b) s =
      .next (replied .service tag (.budgetSet b) ⟨.ok, clampedFlag (v ≠ b.toNat), []⟩
        { s with rlm := { s.rlm with budget := v, budgetRaised := false } }))) ∧
  ∀ (tag e : Byte) (d : Half) (s : State),
    (∀ p, LinkReady p s → 2 ≤ e.toNat →
      exec (.compSet p tag e d) s = .next (replied p tag (.compSet e d) (refuse .range) s)) ∧
    (LinkReady .main s → e.toNat < 2 →
      exec (.compSet .main tag e d) s = .next (replied .main tag (.compSet e d) maskedAnswer
        { s with fcp := { s.fcp with enabled := e.toNat = 1 } })) ∧
    (LinkReady .service s → e.toNat < 2 →
      exec (.compSet .service tag e d) s = .next (replied .service tag (.compSet e d)
        ⟨.ok, clampedFlag (clampNat 1 400 d.toNat ≠ d.toNat), []⟩
        { s with fcp := { s.fcp with enabled := e.toNat = 1, deadband := clampNat 1 400 d.toNat } }))

/-- SETTINGS_DEFAULT (R3, R172, R182): BUSY unless every axis is PARKED or FAULTED; from MAIN the operator settings take
their defaults, every protected setting is kept, and the reply carries MASKED; from SERVICE the protected settings, the
budget and the permission map take their defaults too. The budget is 2,400 mA or, with its raised flag, a greater present
sum (R50); that the sum is the one before the new caps lower a duty is the model's choice (log entry 57). An axis whose
position lies outside its new limits is unreferenced (R3). The presets, the history, the power-on preset slot, AUTO_HOME
and the stored image stay. -/
def Obligations.SettingsDefaultLoadsTheFactoryValues : Prop :=
  ∀ (p : Port) (tag : Byte) (s : State), LinkReady p s →
    ((∃ a, (s.axis a).state ≠ .parked ∧ (s.axis a).state ≠ .faulted) →
      exec (.settingsDefault p tag) s = .next (replied p tag .settingsDefault (refuse .busy) s)) ∧
    ((∀ a, (s.axis a).state = .parked ∨ (s.axis a).state = .faulted) → s.rlm.queue = [] →
      ∃ u, exec (.settingsDefault p tag) s = .next u ∧
        Replies p tag .settingsDefault (if p = .main then maskedAnswer else okAnswer) u ∧
        (∀ a, (u.axis a).settings.approach = (defaultAxis a).approach ∧
          (u.axis a).settings.takeup = (defaultAxis a).takeup ∧ (u.axis a).settings.idle = (defaultAxis a).idle ∧
          (u.axis a).settings.settle = (defaultAxis a).settle ∧
          (p = .service → (u.axis a).settings = defaultAxis a) ∧
          (p = .main → (u.axis a).settings = { (s.axis a).settings with
            approach := (defaultAxis a).approach, takeup := (defaultAxis a).takeup, idle := (defaultAxis a).idle
            settle := (defaultAxis a).settle }) ∧
          ((u.axis a).referenced = true ↔ (s.axis a).referenced = true ∧ inTravel (u.axis a).settings (s.axis a).position) ∧
          (u.axis a).state = (s.axis a).state ∧ (u.axis a).position = (s.axis a).position) ∧
        u.geo.live = defaultLive ∧ u.geo.refreshDue = true ∧ u.fcp.enabled = true ∧ u.ths.quiet = .standard ∧
        u.ths.priority = .quietFirst ∧ u.lnk.alertMask = 0x20 ∧ (u.port .main).mask = 0xFF ∧
        (u.port .service).mask = 0xFF ∧ u.lnk.permit = (if p = .main then s.lnk.permit else 0x3F) ∧
        (p = .service → u.brk.settings = defaultBrake ∧ u.ths.limits = defaultLimits ∧ u.ths.hyst = 30 ∧
          u.fan.curves = defaultCurves ∧ u.fan.lightFF = 200 ∧ u.fcp.deadband = 8 ∧
          u.rlm.budget = max 2400 s.rlm.sum ∧ u.rlm.budgetRaised = decide (2400 < s.rlm.sum) ∧
          (∀ id, id ≠ .brake → tableEntries u id = tableEntries State.reset id)) ∧
        (p = .main → u.brk.settings = s.brk.settings ∧ u.ths.limits = s.ths.limits ∧ u.ths.hyst = s.ths.hyst ∧
          u.fan.curves = s.fan.curves ∧ u.fan.lightFF = s.fan.lightFF ∧ u.fcp.deadband = s.fcp.deadband ∧
          u.rlm.budget = s.rlm.budget ∧ u.rlm.budgetRaised = s.rlm.budgetRaised ∧
          (∀ id, tableEntries u id = tableEntries s id)) ∧
        u.sto = s.sto ∧ u.lmm = s.lmm ∧ u.start = s.start)

/-! ### Resets and start-up -/

/-- Power-on reset and pin reset (R180, R183, R1, R27, R39, R47, R50, R83, R99, R116, R128, R142, R156, R165, R180,
R183), from a good image with no write in progress: every block's record takes its after-reset values with the settings
of the image; the calibration window opens for 30 ms; the three fans have submitted their starts in order; and the first
warp input has been handed. The image itself stays. A reset that interrupts a store write leaves an image whose check
fails, and an image whose check fails loads the factory parts and twelve EMPTY slots, with SETTINGS_DEFAULTED set (R180,
R181). The clock at 0 is the model's choice (log entry 1), and so are the arrival numbers 0, 1 and 2 and the motion
fields of an axis at rest (log entry 5). -/
def Obligations.PowerResetLoadsTheImage : Prop :=
  (∀ s : State, s.sto.image.good = true → s.sto.write = none →
    judgeQuad (quadOf s.sto.image.parts.geometry.geom) = none →
    s.sto.image.parts.autoHome = true →
    ∃ t u, exec .powerOnReset s = .next t ∧ exec .pinReset s = .next u ∧
      t.axc = axesAtReset s.sto.image.parts.settings.axes ∧ (∀ a, (t.axis a).state = .parked ∧
        (t.axis a).referenced = false ∧ (t.axis a).position = 0) ∧
      (∀ c, t.chan c = ⟨none, 0, false, false, false, false, 0, none⟩) ∧ t.drv.window = some 30 ∧ t.drv.due = true ∧
      t.brk = brkAtReset s.sto.image.parts.settings.brake ∧ t.rlm.budget = s.sto.image.parts.settings.budget ∧
      t.rlm.sum = 0 ∧ t.rlm.grants = [] ∧
      t.rlm.queue = [⟨.fan .fan0, .fan, 650, false, 0, 0⟩, ⟨.fan .fan1, .fan, 300, false, 1, 0⟩,
        ⟨.fan .fan2, .fan, 350, false, 2, 0⟩] ∧
      t.lmm = lmmAtReset s.sto.image.presets ∧ t.geo.live = s.sto.image.parts.geometry ∧ t.geo.refreshDue = true ∧
      t.geo.lastHanded = some (warpInput t.geo) ∧ t.wrp.link = .posted ∧ t.wrp.nextSeq = 1 ∧ t.wrp.inEffect = none ∧
      t.ssc.published = none ∧ t.ssc.nextScan = 100 ∧ t.fan.nextPeriod = 1000 ∧
      (∀ f, (t.fanRec f).state = .stopped ∧ (t.fanRec f).applied = 300 ∧ (t.fanRec f).requestQueued = true) ∧
      t.ths.regime = .quiet ∧ t.ths.limit = 1000 ∧ t.ths.lsen = false ∧ t.fcp.baseValid = false ∧
      t.sto.image = s.sto.image ∧ t.sto.defaulted = false ∧ t.sto.write = none ∧
      t.lnk.permit = s.sto.image.parts.access.permit ∧ t.lnk.alertMask = s.sto.image.parts.access.alertMask ∧
      (∀ p, (t.port p).receiver = .hunt ∧ (t.port p).serving = none ∧ (t.port p).queue = []) ∧
      t.now = 0 ∧ t.start = ⟨.powerOn, .homing [.zom, .foc, .hsh, .vsh] none, false⟩ ∧
      u = { t with start := { t.start with kind := .pin } }) ∧
  ∀ s : State, (s.sto.write.isSome = true ∨ s.sto.image.good = false) →
    ∃ t, exec .powerOnReset s = .next t ∧ t.sto.image.good = false ∧ t.sto.defaulted = true ∧
      (∀ a, (t.axis a).settings = defaultAxis a) ∧ t.lmm.presets = List.replicate 12 emptyPreset ∧
      t.geo.live = defaultLive ∧ t.rlm.budget = 2400 ∧ t.brk.settings = ⟨900, 300, 60, 40⟩ ∧
      t.lnk.permit = 0x3F ∧ t.lnk.alertMask = 0x20 ∧ t.sto.powerOnSlot = none

/-- SOFT_RESET (R185): it waits while a store write runs or the reply to RESET has not left; else, with a good image,
the axes, the brake, lens memory and the link take their after-reset values, coils and brake entries are released, and
the fans, the sensors, the regime, the warp in effect and the transmitters go on. That the command changes nothing
before its moment, and is taken with no RESET arranged, is the model's choice (log entry 19). That a frame begun on a
transmitter goes on is read from R165 by inference, whichever frame it is (log entry 68). -/
def Obligations.SoftResetKeepsWhatRunsOn : Prop :=
  ∀ s : State,
    (LinkSettled s → s.sto.write.isSome = true ∨ (∃ x, s.lnk.arranged = some x ∧ x.replyLeft = false) →
      exec .softReset s = .next (formAlert s)) ∧
    (s.sto.write = none → (∀ x, s.lnk.arranged = some x → x.replyLeft = true) → s.sto.image.good = true →
      ∃ t, exec .softReset s = .next t ∧ t.axc = axesAtReset s.sto.image.parts.settings.axes ∧
        (∀ c, t.chan c = ⟨none, 0, false, false, false, false, (s.chan c).offset, none⟩) ∧
        t.brk = brkAtReset s.sto.image.parts.settings.brake ∧ t.rlm.axes = PerAxis.all 0 ∧ t.rlm.brake = 0 ∧
        t.rlm.sum ≤ t.rlm.budget ∧ t.lmm = lmmAtReset s.sto.image.presets ∧ t.wrp.inEffect = s.wrp.inEffect ∧
        (∀ f, (t.fanRec f).state = (s.fanRec f).state ∧ (t.fanRec f).fanFault = false ∧
          (t.fanRec f).spinTimer = (s.fanRec f).spinTimer) ∧
        t.ssc.published = s.ssc.published ∧ t.ssc.nextScan = s.ssc.nextScan ∧ t.ssc.detected = s.ssc.detected ∧
        t.ths.regime = s.ths.regime ∧ t.ths.lsen = s.ths.lsen ∧ t.lnk.arranged = none ∧ t.lnk.linkLatch = false ∧
        (∀ p, (t.port p).serving = none ∧ (t.port p).waiting = none ∧ (t.port p).receiver = .hunt) ∧
        (∀ p f, (s.port p).transmitter = some f → (t.port p).transmitter = some f) ∧
        t.now = s.now ∧ t.sto.image = s.sto.image ∧ t.start.kind = .soft)

/-- START_UP_HOME and START_UP_RECALL (R71, R72, R183, R184): once the calibration window has closed since the reset and
a set is published, the next home is asked for as if from SERVICE and awaited, also while a later window is open; in
EMERGENCY or SHUTDOWN it is refused and start-up goes on to the next axis. Before the window has closed the command does
nothing (the model's choice, log entries 2 and 40). A power-on preset slot that is EMPTY is refused and READY carries
the refusal. After a soft reset in EMERGENCY or SHUTDOWN the recall is refused with THERMAL (R185), whatever the slot
holds, which puts R185 before the order of R71 (the model's choice, log entry 61). An accepted power-on recall pushes
its snapshot and is awaited: one that moves ZOM leaves it waiting for its grant, owed, with origin RECALL; one with
nothing to do is over at once, and READY carries OK. -/
def Obligations.StartUpAsksForHomesAndTheRecall : Prop :=
  ∀ s : State, LinkSettled s →
    (∀ a rest, s.start.stage = .homing (a :: rest) none → s.start.windowClosed = false →
      exec .startUpHome s = .next (formAlert s)) ∧
    (∀ a b rest, s.start.stage = .homing (a :: b :: rest) none → s.start.windowClosed = true →
      s.ssc.published.isSome = true → s.ths.regime = .emergency ∨ s.ths.regime = .shutdown →
      exec .startUpHome s =
        .next (formAlert { s with start := { s.start with stage := .homing (b :: rest) none } })) ∧
    (∀ a rest, s.start.stage = .homing (a :: rest) none → s.start.windowClosed = true →
      s.ssc.published.isSome = true → partnerOf a = none → (s.axis a).state = .parked → s.drv.driverHot = false →
      s.drv.railLow = false → s.ths.regime ≠ .emergency → s.ths.regime ≠ .shutdown → s.rlm.queue = [] →
      (s.drv.window.isSome = true ∨ spacingAllows s.now s.rlm.grants = false) →
      ∃ t, exec .startUpHome s = .next t ∧ t.start = { s.start with stage := .homing rest (some a) } ∧
        (t.axis a).state = .waitStart ∧ (t.axis a).origin = .home ∧ (t.axis a).referenced = false ∧
        t.rlm.queue = [⟨.axis a, .motor, (axisNeed s a).1, false, s.rlm.nextArrival, s.now⟩] ∧
        (∀ a', a' ≠ a → t.axis a' = s.axis a') ∧
        t = { s with start := t.start, axc := t.axc, rlm := t.rlm, fcp := t.fcp, lnk := t.lnk }) ∧
    (∀ n, s.start.stage = .askRecall → s.sto.powerOnSlot = some n → n < 12 →
      (s.start.kind = .soft → s.ths.regime = .emergency ∨ s.ths.regime = .shutdown →
        ∃ t, exec .startUpRecall s = .next t ∧ t.start = { s.start with stage := .done } ∧
          NoticeSent (.ready .soft (referencedFlags s) s.sto.defaulted (.refused .thermal)) s t ∧
          t = { s with start := t.start, lnk := t.lnk }) ∧
      ((s.lmm.presets.getD n emptyPreset).valid = false →
        s.start.kind ≠ .soft ∨ (s.ths.regime ≠ .emergency ∧ s.ths.regime ≠ .shutdown) →
        ∃ t, exec .startUpRecall s = .next t ∧ t.start = { s.start with stage := .done } ∧
          NoticeSent (.ready s.start.kind (referencedFlags s) s.sto.defaulted (.refused .empty)) s t ∧
          t = { s with start := t.start, lnk := t.lnk }) ∧
      ((s.lmm.presets.getD n emptyPreset).valid = true → s.ths.regime ≠ .emergency → s.ths.regime ≠ .shutdown →
        s.lmm.active = false → (s.lmm.presets.getD n emptyPreset).geom = none →
        let pushed := (snapshot s .recalled :: s.lmm.history).take 8
        ((s.lmm.presets.getD n emptyPreset).pos = PerAxis.all none →
          ∃ t, exec .startUpRecall s = .next t ∧ t.start = { s.start with stage := .done } ∧
            t.lmm.active = false ∧ t.lmm.history = pushed ∧ t.axc = s.axc ∧ t.rlm = s.rlm ∧
            (∀ p, (s.port p).Idle → Hears (.ready s.start.kind (referencedFlags s) s.sto.defaulted (.ended none)) (s.port p) →
              .ready s.start.kind (referencedFlags s) s.sto.defaulted (.ended none) ∈ (t.port p).queue ∨
              (t.port p).transmitter =
                some (.notice (.ready s.start.kind (referencedFlags s) s.sto.defaulted (.ended none))))) ∧
        (∀ z, (s.lmm.presets.getD n emptyPreset).pos = ⟨none, none, some z, none⟩ → s.axc.zom.referenced = true →
          s.drv.driverHot = false → s.drv.railLow = false →
          (s.axc.zom.state = .parked ∨ s.axc.zom.state = .holding) → s.drv.window.isSome = true → s.rlm.queue = [] →
          let x := clampInt s.axc.zom.settings.travelMin s.axc.zom.settings.travelMax z
          x ≠ s.axc.zom.position →
          ∃ t, exec .startUpRecall s = .next t ∧ t.start = { s.start with stage := .awaitRecall } ∧
            t.lmm.active = true ∧ t.lmm.owed = ⟨false, false, true, false⟩ ∧ t.lmm.slot = some n ∧
            t.lmm.history = pushed ∧ t.axc.zom.state = .waitStart ∧ t.axc.zom.pendingTarget = some x ∧
            t.axc.zom.origin = .recalled ∧ t.axc.zom.speedClass = .normal ∧ t.axc = s.axc.set .zom t.axc.zom ∧
            t = { s with start := t.start, axc := t.axc, rlm := t.rlm, lmm := t.lmm, lnk := t.lnk })))

/-! ### The rail's commands -/

/-- GRANT_SPACING_EXPIRY (R54, R55, R56): the clock stands at the moment a grant becomes allowed (that the command moves
the clock there, and does nothing with an empty queue, is the model's choice, log entry 2), and the one request in the
queue is granted when it fits. A fan's grant makes it SPINUP at its rated current for 2 s; a brake's grant, with both
shift pairs driven (R43), makes the brake RELEASING with CH8 at HIT for the HIT time (R41). A shift axis's grant with
both axes PARKED and the brake ENGAGED (R9, R40) brings both coil pairs to HOLD, makes the partner HOLDING, keeps the
axis in WAIT_START with its target, and queues the brake's release. The grant of a start from SETTLING, whose need is 0
(R14, R52), raises no entry: beside a partner that is PARKED the axis waits in WAIT_START at HOLD, the partner stays off,
and no release is queued, since BRK submits one only while both shift pairs are driven (R43; partner hold false: the
model's choice, log entry 52). -/
def Obligations.SpacingExpiryGrantsTheHead : Prop :=
  (∀ s : State, LinkSettled s →
    let s' := advanceTo (spacingMoment s.rlm.grants) s
    (s.rlm.queue = [] → exec .grantSpacingExpiry s = .next (formAlert s)) ∧
    (∀ f n t0, s.rlm.queue = [⟨.fan f, .fan, ratedCurrent f, false, n, t0⟩] → s.drv.window = none →
      s'.rlm.grants.all (fun t => t + 20 ≤ s'.now) = true → recentGrants s'.now s.rlm.grants < 4 →
      s.rlm.sum + ratedCurrent f ≤ s.rlm.budget →
      exec .grantSpacingExpiry s = .next (formAlert
        { s'.setFan f { s.fanRec f with
            state := .spinup, spinTimer := some (s'.now + 2000), requestQueued := false, wholePeriod := false } with
          rlm := { s.rlm.setEntry (.fan f) (ratedCurrent f) with
            queue := [], grants := (s'.now :: s.rlm.grants).take 4 } })) ∧
    (∀ n t0, s.rlm.queue = [⟨.brake, .brake, s.brk.settings.hit, false, n, t0⟩] → s.drv.window = none →
      shiftDriven s = true →
      s'.rlm.grants.all (fun t => t + 20 ≤ s'.now) = true → recentGrants s'.now s.rlm.grants < 4 →
      s.rlm.sum + s.brk.settings.hit ≤ s.rlm.budget →
      exec .grantSpacingExpiry s = .next (formAlert
        { driveChan .ch8 (some s.brk.settings.hit) s' with
          brk := { s.brk with
            state := .releasing, releaseQueued := false, hitReached := false, dipSeen := false
            timer := some (s'.now + s.brk.settings.hitTime) }
          rlm := { s.rlm with
            brake := s.brk.settings.hit, queue := [], grants := (s'.now :: s.rlm.grants).take 4 } }))) ∧
  (∀ (s : State) (a q : Axis) (n t0 : Nat) (x : Int), LinkSettled s → partnerOf a = some q →
    (s.axis a).state = .waitStart → (s.axis a).pendingTarget = some x → (s.axis q).state = .parked →
    (s.axis a).resume ≠ .settling → (∀ c, (s.chan c).level = none ∧ (s.chan c).latched = false) →
    s.brk.state = .engaged → s.brk.releaseQueued = false → s.drv.window = none → s.rlm.axes.get a = 0 →
    s.rlm.axes.get q = 0 → s.rlm.queue = [⟨.axis a, .motor, 2 * (s.axis a).settings.run + 2 * (s.axis q).settings.hold, true, n, t0⟩] →
    let s' := advanceTo (spacingMoment s.rlm.grants) s
    s'.rlm.grants.all (fun t => t + 20 ≤ s'.now) = true → recentGrants s'.now s.rlm.grants < 4 →
    s.rlm.sum + 2 * (s.axis a).settings.run + 2 * (s.axis q).settings.hold ≤ s.rlm.budget →
    ∃ t, exec .grantSpacingExpiry s = .next t ∧ (t.axis a).state = .waitStart ∧ (t.axis a).target = x ∧
      (t.axis q).state = .holding ∧ t.brk = { s.brk with releaseQueued := true } ∧
      (t.chan (chansOf a).1).level = some (s.axis a).settings.hold ∧
      (t.chan (chansOf a).2).level = some (s.axis a).settings.hold ∧
      (t.chan (chansOf q).1).level = some (s.axis q).settings.hold ∧
      (t.chan (chansOf q).2).level = some (s.axis q).settings.hold ∧
      t.rlm.axes.get a = 2 * (s.axis a).settings.run ∧ t.rlm.axes.get q = 2 * (s.axis q).settings.hold ∧
      t.rlm.queue = [⟨.brake, .brake, s.brk.settings.hit, false, s.rlm.nextArrival, s'.now⟩] ∧
      t.rlm.grants = (s'.now :: s.rlm.grants).take 4 ∧ t.now = s'.now) ∧
  ∀ (s : State) (a q : Axis) (n t0 : Nat) (x : Int), LinkSettled s → partnerOf a = some q →
    (s.axis a).state = .waitStart → (s.axis a).resume = .settling → (s.axis a).pendingTarget = some x →
    (s.axis q).state = .parked → energised s q = false →
    (s.chan (chansOf a).1).latched = false → (s.chan (chansOf a).2).latched = false → s.brk.state = .engaged →
    s.drv.window = none → s.rlm.axes.get a = 2 * (s.axis a).settings.run →
    s.rlm.queue = [⟨.axis a, .motor, 0, false, n, t0⟩] →
    let s' := advanceTo (spacingMoment s.rlm.grants) s
    s'.rlm.grants.all (fun t => t + 20 ≤ s'.now) = true → recentGrants s'.now s.rlm.grants < 4 →
    s.rlm.sum ≤ s.rlm.budget →
    ∃ t, exec .grantSpacingExpiry s = .next t ∧ (t.axis a).state = .waitStart ∧ (t.axis a).target = x ∧
      (t.axis a).granted = true ∧ (t.chan (chansOf a).1).level = some (s.axis a).settings.hold ∧
      (t.chan (chansOf a).2).level = some (s.axis a).settings.hold ∧ (t.axis q).state = .parked ∧
      energised t q = false ∧ t.brk = s.brk ∧
      t.rlm = { s.rlm with queue := [], grants := (s'.now :: s.rlm.grants).take 4 } ∧ t.now = s'.now

/-- GRANT_SPACING_EXPIRY with any queue (R51, R53, R54, R55, R58): the head is the request of the first class present in
the order FAN, BRAKE, MOTOR, COMP, and of the lowest arrival in it. A head that fits is granted alone, and every other
request keeps its place, its class and its time: a fan goes to SPINUP at its rated current, and ZOM or FOC begins its move
at 2 × RUN. A head that does not fit holds back every request behind it. A FAN head that does not fit sheds the rail
first: a HOLDING ZOM or FOC is PARKED, its coils off, its entry 0 and its reference kept, without a notice, no other axis
is touched, and the fan is granted when it fits then. That the command moves the clock is the model's choice (log
entry 2). -/
def Obligations.HeadGoesFirstAndAFanSheds : Prop :=
  ∀ (s : State) (h : StartReq), LinkSettled s → s.drv.window = none → h ∈ s.rlm.queue →
    (∀ q ∈ s.rlm.queue, q = h ∨ classRank h.cls < classRank q.cls ∨ (h.cls = q.cls ∧ h.arrival < q.arrival)) →
    let s' := advanceTo (spacingMoment s.rlm.grants) s
    spacingAllows s'.now s.rlm.grants = true →
    let places := fun (l : List StartReq) => l.map fun q => (q.requester, q.cls, q.arrival, q.since)
    let behind := s.rlm.queue.filter fun q => q.requester ≠ h.requester
    let fitsIn := fun (need freed : Nat) => s.rlm.sum + need ≤ s.rlm.budget + freed
    let spins := fun (f : Fan) (t : State) =>
      t.fanRec f = { s.fanRec f with
        state := .spinup, spinTimer := some (s'.now + 2000), requestQueued := false, wholePeriod := false } ∧
      t.rlm.fans = s.rlm.fans.set f (ratedCurrent f) ∧ places t.rlm.queue = places behind ∧
      t.rlm.grants = (s'.now :: s.rlm.grants).take 4
    ∃ t, exec .grantSpacingExpiry s = .next t ∧ t.now = s'.now ∧
      (∀ f, h.requester = .fan f → h.cls = .fan → fitsIn (ratedCurrent f) 0 →
        spins f t ∧ ((∀ q ∈ behind, q.cls ≠ .fan) → t.axc = s'.axc)) ∧
      (∀ a, h.requester = .axis a → h.cls ≠ .fan → partnerOf a = none → (s.axis a).state = .waitStart →
        (s.axis a).origin ≠ .home → ∀ y, (s.axis a).pendingTarget = some y →
        fitsIn (2 * (s.axis a).settings.run - s.rlm.axes.get a) 0 →
        (t.axis a).state = .moving ∧ (t.axis a).target = y ∧ t.rlm.axes.get a = 2 * (s.axis a).settings.run ∧
        places t.rlm.queue = places behind ∧ t.rlm.grants = (s'.now :: s.rlm.grants).take 4 ∧
        (∀ x, x ≠ a → t.axis x = s'.axis x) ∧ t.fan = s.fan ∧ t.brk = s.brk) ∧
      (¬fitsIn (needNow s' h.requester).1 0 → h.cls ≠ .fan →
        places t.rlm.queue = places s.rlm.queue ∧ t.rlm = { s.rlm with queue := t.rlm.queue } ∧ t.axc = s'.axc ∧
        t.fan = s.fan ∧ t.brk = s.brk ∧ t.drv = s.drv) ∧
      (∀ f, h.requester = .fan f → h.cls = .fan → ¬fitsIn (ratedCurrent f) 0 →
        let sheds := fun (a : Axis) => decide ((s.axis a).state = .holding)
        let freed := (if sheds .zom then s.rlm.axes.zom else 0) + (if sheds .foc then s.rlm.axes.foc else 0)
        (∀ a, partnerOf a = none → (sheds a = true →
            (t.axis a).state = .parked ∧ (t.axis a).referenced = (s.axis a).referenced ∧ t.rlm.axes.get a = 0 ∧
            (t.chan (chansOf a).1).level = none ∧ (t.chan (chansOf a).2).level = none) ∧
          (sheds a = false → t.axis a = s'.axis a ∧ t.rlm.axes.get a = s.rlm.axes.get a)) ∧
        (∀ a, partnerOf a ≠ none → t.axis a = s'.axis a ∧ t.rlm.axes.get a = s.rlm.axes.get a) ∧
        (∀ p, t.port p = s.port p) ∧
        (fitsIn (ratedCurrent f) freed → spins f t) ∧
        (¬fitsIn (ratedCurrent f) freed → t.fan = s.fan ∧ places t.rlm.queue = places s.rlm.queue ∧
          t.rlm.grants = s.rlm.grants))

/-- QUEUE_TIMEOUT (R10, R25, R59): a ZOM or FOC start that has waited 2,000 ms from PARKED is withdrawn; the request
leaves the queue, the axis is PARKED, and MOTION_DONE carries NO_BUDGET, the origin and the position. An axis with no
request is untouched, and the command moves the clock to the end of the 2,000 ms (the model's choice, log entry 2). -/
def Obligations.QueueTimeoutWithdrawsTheStart : Prop :=
  ∀ (s : State) (a : Axis), LinkSettled s →
    (s.rlm.queue.find? (fun q => q.requester = .axis a) = none →
      exec (.queueTimeout a) s = .next (formAlert s)) ∧
    (∀ cls need ph n t0, s.rlm.queue = [⟨.axis a, cls, need, ph, n, t0⟩] → partnerOf a = none →
      (s.axis a).state = .waitStart → (s.axis a).profile = .rest → (s.axis a).granted = false →
      energised s a = false → (s.axis a).origin = .user → s.now ≤ t0 + 2000 →
      ∃ t, exec (.queueTimeout a) s = .next t ∧ t.now = t0 + 2000 ∧ t.rlm.queue = [] ∧
        (t.axis a).state = .parked ∧ (t.axis a).pendingTarget = none ∧ (t.axis a).position = (s.axis a).position ∧
        t.rlm.axes.get a = 0 ∧ NoticeSent (.motionDone a .user .noBudget (s.axis a).position) s t ∧
        t.brk = s.brk ∧ t.lmm = s.lmm ∧ t.sto = s.sto)

/-! ### Motion -/

/-- CRUISE_REACHED and DECEL_POINT_REACHED (R11, R18): an axis that speeds up, or slows to a lower cruise, takes the
cruise speed of its leg and, in MOVING but for TAKEUP, phase CRUISE with the low-load count at 0; an axis whose leg is
to stop stands at its stopping distance from the turn point and decelerates. Neither changes anything else. That both,
and LEG_AT_REST, change nothing on an axis at rest is the model's choice (log entry 2), and so are the counter at these
points (log entry 3) and CRUISE_REACHED taken on a leg too short to cruise as on any other (log entry 66). -/
def Obligations.ProfileEventsFollowTheTrapezoid : Prop :=
  ∀ (s : State) (a : Axis), LinkSettled s →
    let r := s.axis a
    let moves : Prop := r.state = .moving ∨ r.state = .homing
    (moves → r.profile = .accel ∨ r.profile = .slowing →
      ∃ t, exec (.cruiseReached a) s = .next t ∧ (t.axis a).speed = legCruise r ∧ (t.axis a).profile = .cruise ∧
        (r.state = .moving → r.phase ≠ .takeup → (t.axis a).phase = .cruise ∧ (t.axis a).lowLoad = 0) ∧
        (t.axis a).turnPoint = r.turnPoint ∧ (t.axis a).state = r.state ∧ (t.axis a).target = r.target ∧
        t = formAlert (s.setAxis a (t.axis a))) ∧
    (moves → r.leg ≠ .search → r.leg ≠ .none → r.profile = .cruise →
      let d := min (ceilDiv (r.speed * r.speed) (2 * r.settings.accel * 1000000)) (remaining r)
      ∃ t, exec (.decelPointReached a) s = .next t ∧
        (t.axis a).position = r.turnPoint - r.dir.sign * (d : Nat) ∧ (t.axis a).speed = r.speed ∧
        (t.axis a).profile = .decel ∧ (r.state = .moving → r.phase ≠ .takeup → (t.axis a).phase = .decel) ∧
        (t.axis a).turnPoint = r.turnPoint ∧ (t.axis a).target = r.target ∧
        t = formAlert (s.setAxis a (t.axis a))) ∧
    (r.profile = .rest →
      exec (.cruiseReached a) s = .next (formAlert s) ∧ exec (.decelPointReached a) s = .next (formAlert s) ∧
      exec (.legAtRest a) s = .next (formAlert s))

/-- LEG_AT_REST (R11, R12, R13, R17, R20): the axis stands on its turn point. The last leg of a move enters SETTLING for
the settle time, and with a settle time of 0 a ZOM or FOC move under policy PARK is over at once, PARKED, with its
MOTION_DONE (R21); an overshoot is followed by a TAKEUP leg to the target in the approach direction; a reversal by a leg
in the opposite direction. In a home, the rest beyond the edge is followed by the RETURN leg to the reference position,
with its overshoot point clamped to the travel limits; an overshoot of that leg by a last leg in the approach direction;
and the end on the reference position makes the axis referenced before it settles. A ZOM or FOC home that has failed is
de-energised and FAULTED with cause HOME_FAIL, and MOTION_DONE carries HOME_FAIL (R25). A shift axis whose home has
failed is FAULTED too, a RELEASED brake engages, and its partner, when it holds, is PARKED with the carriage clamped, or
marked to be (R23; the mark is the model's choice, log entry 12). That the phase becomes RETURN at the rest beyond the
edge, and stays so in the last leg, is the model's choice (log entry 11), and so is the direction of a RETURN leg of no
length (log entry 72). -/
def Obligations.LegAtRestSettlesOrTurns : Prop :=
  ∀ (s : State) (a : Axis), LinkSettled s → s.rlm.queue = [] →
    ((s.axis a).state = .moving ∨ (s.axis a).state = .homing) → (s.axis a).profile = .decel →
    let r := s.axis a
    let ends : Prop := r.leg = .toTarget ∨ r.leg = .takeup ∨ r.leg = .stop ∨ r.leg = .homeReturn
    let off := fun (x : Axis) (t : State) => (t.chan (chansOf x).1).level = none ∧
      (t.chan (chansOf x).2).level = none ∧ t.rlm.axes.get x = 0
    ∃ t, exec (.legAtRest a) s = .next t ∧ (t.axis a).position = r.turnPoint ∧ (t.axis a).speed = 0 ∧
      (ends → 0 < r.settings.settle →
        (t.axis a).state = .settling ∧ (t.axis a).settleMove = true ∧
        (t.axis a).settleEnd = s.now + r.settings.settle ∧ (t.axis a).endResult = r.endResult ∧
        (t.axis a).referenced = (r.referenced || r.leg = .homeReturn) ∧ t.rlm = s.rlm ∧ t.drv = s.drv) ∧
      (ends → r.settings.settle = 0 → partnerOf a = none → r.settings.idle = .park → r.origin = .user →
        (t.axis a).state = .parked ∧ (t.axis a).endResult = none ∧ off a t ∧
        (t.axis a).referenced = (r.referenced || r.leg = .homeReturn) ∧
        NoticeSent (.motionDone a .user (r.endResult.getD .done) r.turnPoint) s t) ∧
      (r.leg = .overshoot →
        (t.axis a).state = r.state ∧ (t.axis a).phase = .takeup ∧ (t.axis a).turnPoint = r.target ∧
        (t.axis a).dir = r.settings.approach ∧ (t.axis a).profile = .accel) ∧
      (r.leg = .reversal →
        (t.axis a).state = r.state ∧ (t.axis a).phase = .accel ∧ (t.axis a).dir = r.dir.flip ∧
        (t.axis a).target = r.target ∧ (t.axis a).profile = .accel) ∧
      (r.leg = .overrun →
        let d := restDir (atRest r) r.settings.refPos
        let plan := planLeg r.settings (clampTravel r.settings) d r.settings.refPos .homeReturn .homeOvershoot
        (t.axis a).state = r.state ∧ (t.axis a).phase = .ret ∧ (t.axis a).target = r.settings.refPos ∧
        (t.axis a).dir = d ∧ (t.axis a).turnPoint = plan.1 ∧ (t.axis a).leg = plan.2 ∧ (t.axis a).profile = .accel) ∧
      (r.leg = .homeOvershoot →
        (t.axis a).state = r.state ∧ (t.axis a).phase = .ret ∧ (t.axis a).turnPoint = r.target ∧
        (t.axis a).dir = r.settings.approach ∧ (t.axis a).leg = .homeReturn ∧ (t.axis a).profile = .accel) ∧
      (r.leg = .homeFail → partnerOf a = none → r.origin = .home → r.granted = false → s.start.stage = .done →
        (t.axis a).state = .faulted ∧ (t.axis a).faultCause = some .homeFail ∧ (t.axis a).referenced = false ∧
        off a t ∧ NoticeSent (.motionDone a .home .homeFail r.turnPoint) s t ∧ (∀ a', a' ≠ a → t.axis a' = s.axis a') ∧
        t.brk = s.brk ∧ t.start = s.start) ∧
      (r.leg = .homeFail → ∀ q, partnerOf a = some q → r.granted = false → s.brk.releaseQueued = false →
        (t.axis a).state = .faulted ∧ (t.axis a).faultCause = some .homeFail ∧ (t.axis a).referenced = false ∧ off a t ∧
        (s.brk.state = .released → (t.chan .ch8).level = none ∧ t.rlm.brake = 0 ∧
          t.brk = { s.brk with state := .engaging, next := none, timer := some (s.now + s.brk.settings.engageTime) }) ∧
        (s.brk.state = .engaged ∨ s.brk.state = .faulted → t.brk = s.brk) ∧
        ((s.axis q).state = .holding → brakeClamped s.brk = false → t.axis q = { s.axis q with mustPark := true }) ∧
        ((s.axis q).state = .holding → brakeClamped s.brk = true → (t.axis q).state = .parked ∧ off q t) ∧
        ((s.axis q).state = .parked ∨ (s.axis q).state = .faulted → t.axis q = s.axis q)) ∧
      (r.leg ≠ .homeFail → r.leg ≠ .search → r.leg ≠ .none → (ends → 0 < r.settings.settle) →
        t = formAlert (s.setAxis a (t.axis a)))

/-- SETTLE_EXPIRY at the end of a settle (R20, R21, R24, R25): the clock stands at the end of the settle time. A settle
that belongs to a move of any origin ends it: MOTION_DONE carries the origin, the decided end result, or DONE, and the
position. One that belongs to no move (R10) gives no notice and no report. ZOM and FOC are PARKED with coils off and entry
0 under policy PARK, and in EMERGENCY and SHUTDOWN under either policy, and HOLDING at HOLD under policy HOLD. A shift
axis is HOLDING at HOLD whatever its policy. When the other one holds too and both have policy PARK, the brake is asked
to engage: a RELEASED brake turns CH8 off and starts the engage time, a RELEASING one engages after its release (R42), one
with its clamp pending stays, and with the carriage clamped both are PARKED at once; else the brake and the other axis
stay. A shift axis that owes its parking to a forced engage is PARKED with a clamped carriage (R23), unless the other one
waits for its start, which leaves it HOLDING and marked. The mark it carries until then is the model's choice (log
entry 12), and so is the lower of 2 × HOLD and the entry (log entry 31), the settle that is completed first (log
entry 51), an axis that is not SETTLING left untouched, and the clock moved (log entry 2). -/
def Obligations.SettleExpiryEndsTheMove : Prop :=
  ∀ (s : State) (a : Axis), LinkSettled s →
    ((s.axis a).state ≠ .settling → exec (.settleExpiry a) s = .next (formAlert s)) ∧
    ((s.axis a).state = .settling → (s.axis a).profile = .rest → s.now ≤ (s.axis a).settleEnd → s.rlm.queue = [] →
      let r := s.axis a
      let e := r.settleEnd
      let closed : Prop := s.ths.regime = .emergency ∨ s.ths.regime = .shutdown
      let off := fun (x : Axis) (t : State) => (t.axis x).state = .parked ∧ t.rlm.axes.get x = 0 ∧
        (t.chan (chansOf x).1).level = none ∧ (t.chan (chansOf x).2).level = none
      let holds := fun (x : Axis) (t : State) => (t.axis x).state = .holding ∧
        t.rlm.axes.get x = min (2 * (s.axis x).settings.hold) (s.rlm.axes.get x) ∧
        (t.chan (chansOf x).1).level = some (s.axis x).settings.hold ∧
        (t.chan (chansOf x).2).level = some (s.axis x).settings.hold
      ∃ t, exec (.settleExpiry a) s = .next t ∧ t.now = e ∧ (t.axis a).endResult = none ∧
        (t.axis a).settleMove = false ∧ (t.axis a).position = r.position ∧ (t.axis a).referenced = r.referenced ∧
        (r.settleMove = true → NoticeSent (.motionDone a r.origin (r.endResult.getD .done) r.position) s t) ∧
        (r.settleMove = false → (∀ p, t.port p = s.port p) ∧ t.lmm = s.lmm ∧ t.geo = s.geo ∧ t.fcp = s.fcp ∧
          t.start = s.start) ∧
        (partnerOf a = none → t.brk = s.brk ∧ (∀ x, x ≠ a → t.axis x = (advanceTo e s).axis x) ∧
          (r.settings.idle = .park ∨ closed → off a t) ∧
          (r.settings.idle = .hold → ¬closed → CoilsFollowTheStates s → holds a t)) ∧
        (∀ q, partnerOf a = some q → CoilsFollowTheStates s →
          let unmoved : Prop := t.axis q = (advanceTo e s).axis q
          let owes : Prop := r.mustPark = true ∧ brakeClamped s.brk = true
          let asks : Prop := ¬owes ∧ (s.axis q).state = .holding ∧ r.settings.idle = .park ∧
            (s.axis q).settings.idle = .park
          (owes → (s.axis q).state ≠ .waitStart → off a t ∧ (t.axis a).mustPark = false ∧ unmoved) ∧
          (owes → (s.axis q).state = .waitStart → holds a t ∧ (t.axis a).mustPark = true ∧ unmoved) ∧
          (asks → s.brk.state = .released → holds a t ∧ unmoved ∧
            t.brk = { s.brk with state := .engaging, next := none, timer := some (e + s.brk.settings.engageTime) } ∧
            (t.chan .ch8).level = none ∧ t.rlm.brake = 0) ∧
          (asks → s.brk.state = .releasing → holds a t ∧ unmoved ∧ t.brk = { s.brk with next := some .engage }) ∧
          (asks → s.brk.state = .engaging → holds a t ∧ unmoved ∧ t.brk = { s.brk with next := none }) ∧
          (asks → s.brk.state = .faulted → s.brk.clampPending = true → holds a t ∧ unmoved ∧ t.brk = s.brk) ∧
          (asks → brakeClamped s.brk = true → off a t ∧ off q t) ∧
          (¬owes → ¬asks → holds a t ∧ t.brk = s.brk ∧ unmoved)) ∧
        (r.origin ≠ .recalled → r.origin ≠ .back → t.lmm = s.lmm ∧ t.geo = s.geo) ∧ t.sto = s.sto ∧ t.rlm.queue = [])

/-- What SETTLE_EXPIRY reports inside the controller at the end of a move (R25, R73, R74, R82, R158, R184). An axis that a
recall or a BACK awaits and that ends DONE is awaited no more; the last one makes the recall succeed: the staged geometry
in MANUAL goes live, the record is inactive, RECALL_DONE carries OK. Any other result fails it: the staged geometry is
discarded, the live record stays, and RECALL_DONE carries result and axis. An axis that is not awaited changes nothing. A
FOC move of a user, a recall or a BACK that ends DONE sets base to the position less offset_now, or makes it invalid with
no offset known, and any other result leaves it; a compensation move is over with its result; a home leaves FCP as it is.
The home that start-up awaits lets it go on with the next axis, with the recall, or with READY, and the end of the
power-on recall gives READY. That the owed set is emptied at a failure is the model's choice (log entry 56), and so is the
clock moved (log entry 2) and a base that would leave the signed 32 bits of R156 left open (log entry 64). -/
def Obligations.SettleExpiryReportsTheEnd : Prop :=
  ∀ (s : State) (a : Axis), LinkSettled s → (s.axis a).state = .settling → (s.axis a).settleMove = true →
    (s.axis a).profile = .rest → s.now ≤ (s.axis a).settleEnd → s.rlm.queue = [] →
    let r := s.axis a
    let res := r.endResult.getD .done
    let queued := fun (n : Notice) (t : State) => ∀ q, (s.port q).Idle → Hears n (s.port q) →
      n ∈ (t.port q).queue ∨ (t.port q).transmitter = some (.notice n)
    let ofMemory : Prop := r.origin = .recalled ∨ r.origin = .back
    let awaited : Prop := s.lmm.active = true ∧ s.lmm.owed.get a = true
    let told := fun (x : Option MoveResult) (y : Option Axis) (live : Bool) => Notice.recallDone s.lmm.kind
      (match s.lmm.kind with | .recalled => s.lmm.slot | .back => none) x y live
    let cleared := fun (t : State) => t.lmm = { s.lmm with active := false, owed := PerAxis.all false, staged := none }
    let ready := fun (x : Option MoveResult) (t : State) =>
      (s.start.stage = .awaitRecall → t.start = { s.start with stage := .done } ∧
        ∀ refs, refs = referencedFlags s → queued (.ready s.start.kind refs s.sto.defaulted (.ended x)) t) ∧
      (s.start.stage ≠ .awaitRecall → t.start = s.start)
    ∃ t, exec (.settleExpiry a) s = .next t ∧ t.now = r.settleEnd ∧
      (ofMemory → awaited → res = .done → (∃ y, y ≠ a ∧ s.lmm.owed.get y = true) →
        t.lmm = { s.lmm with owed := s.lmm.owed.set a false } ∧ t.geo = s.geo ∧ t.start = s.start) ∧
      (ofMemory → awaited → res = .done → (∀ y, y ≠ a → s.lmm.owed.get y = false) →
        cleared t ∧ ready none t ∧ (s.lmm.staged = none → t.geo = s.geo ∧ t.wrp = s.wrp) ∧
        (∀ g, s.lmm.staged = some g → g.mode = .manual →
          t.geo.live = { s.geo.live with geom := g } ∧ t.geo.lastHanded = some (warpInput t.geo)) ∧
        queued (told none none s.lmm.staged.isSome) t) ∧
      (ofMemory → awaited → res ≠ .done → res ≠ .superseded →
        cleared t ∧ ready (some res) t ∧ t.geo.live = s.geo.live ∧ t.wrp = s.wrp ∧ queued (told (some res) (some a) false) t) ∧
      (¬ofMemory ∨ ¬awaited → t.lmm = s.lmm ∧ t.geo = s.geo ∧ t.wrp = s.wrp) ∧
      (a ≠ .foc → t.fcp = s.fcp) ∧
      (a = .foc →
        (r.origin = .user ∨ ofMemory → res = .done → r.referenced = true → s.fcp.offsetKnown = true →
          t.fcp = { s.fcp with base := t.fcp.base, baseValid := true } ∧
          (let d := r.position - s.fcp.offsetNow
           d < 2 ^ 31 → -2 ^ 31 ≤ d → t.fcp.base.toInt = d)) ∧
        (r.origin = .user ∨ ofMemory → res = .done → s.fcp.offsetKnown = false →
          t.fcp = { s.fcp with baseValid := false }) ∧
        (r.origin = .user ∨ ofMemory → res ≠ .done → t.fcp = s.fcp) ∧
        (r.origin = .comp → t.fcp = { s.fcp with moveActive := false, lastResult := some res }) ∧
        (r.origin = .home → t.fcp = s.fcp)) ∧
      (r.origin = .home →
        ∀ l, s.start.stage = .homing l (some a) →
          (l ≠ [] → t.start = { s.start with stage := .homing l none }) ∧
          (l = [] → s.sto.powerOnSlot ≠ none → t.start = { s.start with stage := .askRecall }) ∧
          (l = [] → s.sto.powerOnSlot = none → t.start = { s.start with stage := .done } ∧
            queued (.ready s.start.kind (referencedFlags s) s.sto.defaulted .none) t)) ∧
      (r.origin = .user ∨ r.origin = .comp → t.start = s.start)

/-- LOAD_INDICATOR (R18, R19): judged in CRUISE of MOVING at NORMAL or FAST alone. At or above the threshold the count is
0; below it the count rises; at 4 the axis has stalled: ZOM and FOC are FAULTED with cause STALL at once, unreferenced,
with coils off and entry 0, and MOTION_DONE carries STALL and the position. A stall of a shift axis is stated with the
faults that force the brake to engage. -/
def Obligations.LoadIndicatorsDetectAStall : Prop :=
  ∀ (s : State) (a : Axis) (v : Byte), LinkSettled s →
    let r := s.axis a
    let judged : Prop := r.state = .moving ∧ r.phase = .cruise ∧ (r.speedClass = .normal ∨ r.speedClass = .fast)
    (¬judged → exec (.loadIndicator a v) s = .next (formAlert s)) ∧
    (judged → r.settings.stall ≤ v.toNat →
      exec (.loadIndicator a v) s = .next (formAlert (s.setAxis a { r with lowLoad := 0 }))) ∧
    (judged → v.toNat < r.settings.stall → r.lowLoad < 3 →
      exec (.loadIndicator a v) s = .next (formAlert (s.setAxis a { r with lowLoad := r.lowLoad + 1 }))) ∧
    (judged → v.toNat < r.settings.stall → r.lowLoad = 3 → partnerOf a = none → r.origin = .user → r.granted = false →
      s.rlm.queue = [] →
      ∃ t, exec (.loadIndicator a v) s = .next t ∧ (t.axis a).state = .faulted ∧
        (t.axis a).faultCause = some .stall ∧ (t.axis a).referenced = false ∧ (t.axis a).position = r.position ∧
        t.rlm.axes.get a = 0 ∧ (t.chan (chansOf a).1).level = none ∧ (t.chan (chansOf a).2).level = none ∧
        NoticeSent (.motionDone a .user .stall r.position) s t ∧ (∀ a', a' ≠ a → t.axis a' = s.axis a') ∧
        t.brk = s.brk ∧ t.now = s.now ∧ t.sto = s.sto)

/-- HOME_SENSOR_EDGE and HOME_SEARCH_LIMIT (R16, R17): the input takes its new level; the edge that ends a search sets
the counter to the reference position, from which the axis decelerates to rest beyond it; an edge that ends no search
changes the input alone. A search that has covered its distance decelerates toward HOME_FAIL; that HOME_SEARCH_LIMIT
does nothing on an axis that does not search is the model's choice (log entry 2), and so are the exact counter at the
limit and the point of rest after it (log entry 3), the phase SEARCH until that rest (log entry 11), and a limit or a
point of rest beyond the edge that lies outside the signed 32-bit range (log entry 49). -/
def Obligations.HomeSearchEndsAtItsEdgeOrItsLimit : Prop :=
  ∀ (s : State) (a : Axis) (x : Bool), LinkSettled s →
    let r := s.axis a
    let searching : Prop := r.state = .homing ∧ r.phase = .search ∧ r.leg = .search
    let ends : Prop := searching ∧ (r.dir = .pos ∧ x = false ∨ r.dir = .neg ∧ x = true)
    let d := ceilDiv (r.speed * r.speed) (2 * r.settings.accel * 1000000)
    (¬ends → exec (.homeSensorEdge a x) s = .next (formAlert { s with refActive := s.refActive.set a x })) ∧
    (ends → exec (.homeSensorEdge a x) s = .next (formAlert
      { s.setAxis a { r with
          position := r.settings.refPos, frac := 0, lastDir := r.dir
          turnPoint := r.settings.refPos + r.dir.sign * (d : Nat), leg := .overrun, profile := .decel } with
        refActive := s.refActive.set a x })) ∧
    (¬(r.state = .homing ∧ r.leg = .search) → exec (.homeSearchLimit a) s = .next (formAlert s)) ∧
    (searching → ∃ t, exec (.homeSearchLimit a) s = .next t ∧ (t.axis a).position = r.turnPoint ∧
      (t.axis a).leg = .homeFail ∧ (t.axis a).profile = .decel ∧ (t.axis a).endResult = some .homeFail ∧
      (t.axis a).state = .homing ∧ t = formAlert (s.setAxis a (t.axis a)))

/-! ### Drive channels -/

/-- The open-load check (R29): a sensed current of at least 25 % of the setpoint ends it; at its expiry OPEN_LOAD is
latched on every channel of the owner whose check ends with it, and the channels go off. For ZOM and FOC the axis is
FAULTED with cause OPEN_LOAD and unreferenced (R5, R22); with no check running neither command does anything.
OVERCURRENT_DETECTED (R30, R31): a driven channel whose sensed current exceeds 1,400 mA is latched OVERCURRENT and
turned off, a FAULT notice names it, and its ZOM or FOC axis is FAULTED with that cause, unreferenced, with both
channels off. At or below 1,400 mA, or on a channel that is off, nothing happens. The faults of shift axes and of CH8
are a statement of their own. That the check commands do nothing with no check running is the model's choice (log entry
2), and so is the judgment of a report from the command's value (log entry 28) and the FAULT notice before MOTION_DONE
(log entry 59). -/
def Obligations.ChannelFaultsReachTheirAxis : Prop :=
  ∀ (s : State) (c : Chan) (m : Nat), LinkSettled s →
    ((s.chan c).check = none → exec (.openLoadCheckPass c m) s = .next (formAlert s) ∧
      exec (.openLoadCheckExpiry c) s = .next (formAlert s)) ∧
    (∀ e v, (s.chan c).check = some e → (s.chan c).level = some v →
      (v ≤ 4 * m → exec (.openLoadCheckPass c m) s = .next (formAlert (s.setChan c
        { s.chan c with sensed := min m 2000, check := none }))) ∧
      (4 * m < v → exec (.openLoadCheckPass c m) s = .next (formAlert s))) ∧
    (∀ e a, (s.chan c).check = some e → ownerOf c = some a → partnerOf a = none → (s.axis a).origin = .user →
      (s.axis a).granted = false → s.rlm.queue = [] → s.now ≤ e →
      ∃ t, exec (.openLoadCheckExpiry c) s = .next t ∧ t.now = e ∧ (t.chan c).openLoad = true ∧
        (t.chan c).level = none ∧ (∀ d, ownerOf d = some a → (s.chan d).check = some e → (t.chan d).openLoad = true) ∧
        (∀ d, ownerOf d ≠ some a → t.chan d = s.chan d) ∧ (∀ d, ownerOf d = some a → (t.chan d).level = none) ∧
        (t.axis a).state = .faulted ∧ (t.axis a).faultCause = some .openLoad ∧ (t.axis a).referenced = false ∧
        t.rlm.axes.get a = 0 ∧ t.brk = s.brk ∧ t.sto = s.sto) ∧
    ((s.chan c).level = none ∨ m ≤ 1400 → exec (.overcurrentDetected c m) s = .next (formAlert s)) ∧
    (∀ a, (s.chan c).level.isSome = true → 1400 < m → ownerOf c = some a → partnerOf a = none →
      (s.axis a).origin = .user → (s.axis a).granted = false → s.rlm.queue = [] →
      ∃ t, exec (.overcurrentDetected c m) s = .next t ∧ (t.chan c).overcurrent = true ∧
        (t.chan c).sensed = min m 2000 ∧ (∀ d, ownerOf d = some a → (t.chan d).level = none) ∧
        (∀ d, ownerOf d ≠ some a → t.chan d = s.chan d) ∧ (t.axis a).state = .faulted ∧
        (t.axis a).faultCause = some .overcurrent ∧ (t.axis a).referenced = false ∧
        (t.axis a).position = (s.axis a).position ∧ (∀ a', a' ≠ a → t.axis a' = s.axis a') ∧
        NoticeSent (.fault (.channel c .overcurrent)) s t ∧ t.rlm.axes.get a = 0 ∧ t.brk = s.brk ∧ t.now = s.now ∧
        t.sto = s.sto)

/-! ### The brake -/

/-- The brake's requests and its release. BRAKE_CLEAR (R45): a brake that is not FAULTED is left alone; while clamp
pending runs it is refused with BUSY; else the latches of CH8 clear, the brake is ENGAGED with no cause, and the clamped
report parks the shift axes, a settling one at its settle's end, unless one waits. BRAKE_SET from SERVICE (R40, R43,
R46): release is refused with FAULT on a FAULTED brake and with STATE while a shift pair is off; with both pairs driven
it queues a BRAKE request of the HIT current, which waits for the spacing or the budget or is granted at once (R41, R54,
R55), and in ENGAGING it waits for the end of the engage time; engage on a RELEASED brake turns CH8 off and starts the
engage time, a MOVING shift axis decelerates to BRAKE_ENGAGED, and each parks later (R23). HIT_TIME_EXPIRY (R9, R23,
R40, R41, R44): with HIT reached and the dip seen the brake is RELEASED, CH8 and its entry fall to HOLD, and each
granted shift axis that waits begins its motion at RUN, or, with next action ENGAGE, the brake is ENGAGING at once;
without HIT it is FAULTED with HIT_NOT_REACHED latched, without the dip with NO_RELEASE: then each shift axis that waits
ends with BRAKE_FAULT, and those that wait or hold are PARKED. Before it, HIT reached is set when the current comes to
within 5 % of the setpoint (R28), dip seen when it has fallen by an eighth of the setpoint below the highest value. The
model's choices are: what does nothing, and the clock (log entries 2 and 28), the mark of a parking owed (12),
BRAKE_ENGAGED in place of an end already decided (13), the clamped stop point (23), the lower of HOLD and the entry
(31), the FAULT notice before MOTION_DONE (59), and the direction of a leg of no length (72). -/
def Obligations.BrakeIsReleasedEngagedAndCleared : Prop :=
  (∀ (p : Port) (tag : Byte) (s : State), LinkReady p s →
    (s.brk.state ≠ .faulted → exec (.brakeClear p tag) s = .next (replied p tag .brakeClear okAnswer s)) ∧
    (s.brk.state = .faulted → s.brk.clampPending = true →
      exec (.brakeClear p tag) s = .next (replied p tag .brakeClear (refuse .busy) s)) ∧
    (s.brk.state = .faulted → s.brk.clampPending = false → s.rlm.queue = [] →
      ∃ u, exec (.brakeClear p tag) s = .next u ∧ Replies p tag .brakeClear okAnswer u ∧
        u.brk = { s.brk with state := .engaged, cause := none } ∧
        u.chan .ch8 = { s.chan .ch8 with
          overcurrent := false, openLoad := false, hitNotReached := false, calib := false } ∧
        ((∃ a, isShift a = true ∧ (s.axis a).state = .waitStart) → u.axc = s.axc ∧ u.rlm = s.rlm) ∧
        ((∀ a, isShift a = true → (s.axis a).state ≠ .waitStart ∧ (s.axis a).state ≠ .moving ∧ (s.axis a).state ≠ .homing) →
          ∀ a, isShift a = true →
            ((s.axis a).state = .holding → (u.axis a).state = .parked ∧ u.rlm.axes.get a = 0 ∧
              (u.chan (chansOf a).1).level = none ∧ (u.chan (chansOf a).2).level = none) ∧
            ((s.axis a).state = .settling → u.axis a = { s.axis a with mustPark := true }) ∧
            ((s.axis a).state = .parked ∨ (s.axis a).state = .faulted → u.axis a = s.axis a)) ∧
        (∀ a, isShift a = false → u.axis a = s.axis a) ∧
        u = { s with axc := u.axc, drv := u.drv, brk := u.brk, rlm := u.rlm, lnk := u.lnk }) ∧
    (p = .service →
      (s.brk.state = .faulted →
        exec (.brakeSet p tag 1) s = .next (replied p tag (.brakeSet 1) (refuse .fault) s) ∧
        exec (.brakeSet p tag 0) s = .next (replied p tag (.brakeSet 0) okAnswer s)) ∧
      (s.brk.state ≠ .faulted → shiftDriven s = false →
        exec (.brakeSet p tag 1) s = .next (replied p tag (.brakeSet 1) (refuse .state) s)) ∧
      (s.brk.state = .releasing ∨ s.brk.state = .released → shiftDriven s = true →
        exec (.brakeSet p tag 1) s = .next (replied p tag (.brakeSet 1) okAnswer s)) ∧
      (s.brk.state = .engaging → shiftDriven s = true → s.rlm.queue = [] →
        exec (.brakeSet p tag 1) s = .next (replied p tag (.brakeSet 1) okAnswer
          { s with brk := { s.brk with next := some .release } })) ∧
      (s.brk.state = .engaged → shiftDriven s = true → s.brk.releaseQueued = false → s.rlm.queue = [] →
        s.drv.window = none →
        (spacingAllows s.now s.rlm.grants = false ∨ s.rlm.budget < s.rlm.sum + s.brk.settings.hit →
          exec (.brakeSet p tag 1) s = .next (replied p tag (.brakeSet 1) okAnswer
            { s with
              brk := { s.brk with releaseQueued := true }
              rlm := { s.rlm with
                queue := [⟨.brake, .brake, s.brk.settings.hit, false, s.rlm.nextArrival, s.now⟩]
                nextArrival := s.rlm.nextArrival + 1 } })) ∧
        (spacingAllows s.now s.rlm.grants = true → s.rlm.sum + s.brk.settings.hit ≤ s.rlm.budget →
          exec (.brakeSet p tag 1) s = .next (replied p tag (.brakeSet 1) okAnswer
            { driveChan .ch8 (some s.brk.settings.hit) s with
              brk := { s.brk with
                state := .releasing, releaseQueued := false, hitReached := false, dipSeen := false
                timer := some (s.now + s.brk.settings.hitTime) }
              rlm := { s.rlm with
                brake := s.brk.settings.hit, nextArrival := s.rlm.nextArrival + 1
                grants := (s.now :: s.rlm.grants).take 4 } }))) ∧
      (s.brk.state = .released → s.rlm.queue = [] →
        (∀ a, isShift a = true → (s.axis a).state = .moving ∨ (s.axis a).state = .holding) →
        ∃ u, exec (.brakeSet p tag 0) s = .next u ∧ Replies p tag (.brakeSet 0) okAnswer u ∧
          u.brk = { s.brk with
            state := .engaging, next := none, timer := some (s.now + s.brk.settings.engageTime) } ∧
          u.drv = (s.setChan .ch8 { s.chan .ch8 with level := none, check := none }).drv ∧
          u.rlm = { s.rlm with brake := 0 } ∧
          (∀ a, isShift a = true →
            ((s.axis a).state = .holding → u.axis a = { s.axis a with mustPark := true }) ∧
            ((s.axis a).state = .moving → u.axis a = { s.axis a with
              turnPoint :=
                clampReach (s.axis a) ((s.axis a).position + (s.axis a).dir.sign * (stopDistance (s.axis a) : Nat))
              leg := .stop, profile := .decel, phase := .decel, endResult := some .brakeEngaged, mustPark := true })) ∧
          (∀ a, isShift a = false → u.axis a = s.axis a) ∧
          u = { s with axc := u.axc, drv := u.drv, brk := u.brk, rlm := u.rlm, lnk := u.lnk }))) ∧
  (∀ (s : State) (e : Nat), LinkSettled s → s.brk.timer = some e → s.now ≤ e →
    (s.brk.state ≠ .releasing → exec .hitTimeExpiry s = .next (formAlert s)) ∧
    (s.brk.state = .releasing → CoilsFollowTheStates s → s.rlm.queue = [] →
      let s' := advanceTo e s
      let free := fun (a : Axis) => { s'.axis a with mustPark := false }
      ∃ t, exec .hitTimeExpiry s = .next t ∧ t.now = e ∧
        (s.brk.hitReached = true → s.brk.dipSeen = true → s.brk.next ≠ some .engage →
          t.brk = { s.brk with state := .released, next := none, timer := none } ∧
          t.rlm = { s.rlm with brake := min s.brk.settings.hold s.rlm.brake } ∧
          (t.chan .ch8).level = some s.brk.settings.hold ∧
          (∀ a, (s.axis a).granted = true →
            t.axis a = (if (s.axis a).origin = .home then beginSearch (free a) (s.refActive.get a)
              else beginMove (free a) ((s'.axis a).pendingTarget.getD (s'.axis a).target)) ∧
            (t.chan (chansOf a).1).level = some (s.axis a).settings.run ∧
            (t.chan (chansOf a).2).level = some (s.axis a).settings.run) ∧
          (∀ a, (s.axis a).granted = false → t.axis a = (if isShift a then free a else s'.axis a) ∧
            t.chan (chansOf a).1 = s.chan (chansOf a).1 ∧ t.chan (chansOf a).2 = s.chan (chansOf a).2) ∧
          t = { s' with axc := t.axc, drv := t.drv, brk := t.brk, rlm := t.rlm, lnk := t.lnk }) ∧
        (s.brk.hitReached = true → s.brk.dipSeen = true → s.brk.next = some .engage →
          t.brk = { s.brk with state := .engaging, next := none, timer := some (e + s.brk.settings.engageTime) } ∧
          t.rlm = { s.rlm with brake := 0 } ∧ (t.chan .ch8).level = none ∧ t.axc = s'.axc) ∧
        (s.brk.hitReached = false →
          t.brk = { s.brk with state := .faulted, cause := some .hitNotReached, next := none, timer := none } ∧
          (t.chan .ch8).hitNotReached = true ∧ NoticeSent (.fault (.channel .ch8 .hitNotReached)) s t) ∧
        (s.brk.hitReached = true → s.brk.dipSeen = false →
          t.brk = { s.brk with state := .faulted, cause := some .noRelease, next := none, timer := none } ∧
          NoticeSent (.fault .noRelease) s t) ∧
        (s.brk.hitReached = false ∨ s.brk.dipSeen = false →
          t.rlm.brake = 0 ∧ (t.chan .ch8).level = none ∧
          ∀ a, isShift a = true → (s.axis a).state = .waitStart ∨ (s.axis a).state = .holding →
            (t.axis a).state = .parked ∧ (t.axis a).referenced = (s.axis a).referenced ∧
            (t.chan (chansOf a).1).level = none ∧ (t.chan (chansOf a).2).level = none ∧ t.rlm.axes.get a = 0 ∧
            ∀ n, n = .motionDone a (s.axis a).origin .brakeFault (s'.axis a).position →
              (s.axis a).state = .waitStart → (s.axis a).origin = .user →
              ∀ p, (s.port p).Idle → Hears n (s.port p) →
                n ∈ (t.port p).queue ∨ (t.port p).transmitter = some (.notice n)))) ∧
  ∀ (s : State) (peak m : Nat), LinkSettled s →
    let v := (s.chan .ch8).level.getD 0
    let seen := s.setChan .ch8 { s.chan .ch8 with sensed := min m 2000 }
    (s.brk.state = .releasing → 19 * v ≤ 20 * m →
      exec (.brakeHitReached m) s = .next (formAlert { seen with brk := { s.brk with hitReached := true } })) ∧
    (s.brk.state ≠ .releasing ∨ 20 * m < 19 * v → exec (.brakeHitReached m) s = .next (formAlert s)) ∧
    (s.brk.state = .releasing → 8 * m + v ≤ 8 * peak →
      exec (.brakeDipSeen peak m) s = .next (formAlert { seen with brk := { s.brk with dipSeen := true } })) ∧
    (s.brk.state ≠ .releasing ∨ 8 * peak < 8 * m + v → exec (.brakeDipSeen peak m) s = .next (formAlert s))

/-- ENGAGE_TIME_EXPIRY and CLAMP_PENDING_EXPIRY (R21, R42, R44): at the end of the engage time the brake is ENGAGED, and
at the end of clamp pending the carriage is clamped; the clamped report then parks both shift axes when both hold with
nothing waiting or moving: coils off, entries 0. With a shift move in WAIT_START both stay as they are (R21), and a release
that waited for the end of the engage time (R40) is submitted then, queued while the rail cannot grant it and granted in
the same event when it can; with both parked none is submitted (R43; log entry 32). A shift axis that still settles,
beside one that holds, is not parked at that moment but marked to be parked at its settle's end (R23; log entry 51). That
the two commands do nothing outside ENGAGING and without clamp pending, and that they move the clock, is the model's
choice (log entry 2). -/
def Obligations.ClampedCarriageParksTheShiftAxes : Prop :=
  ∀ (s : State) (e : Nat), LinkSettled s → s.brk.timer = some e → s.now ≤ e →
    (s.brk.state ≠ .engaging → exec .engageTimeExpiry s = .next (formAlert s)) ∧
    (¬(s.brk.state = .faulted ∧ s.brk.clampPending = true) → exec .clampPendingExpiry s = .next (formAlert s)) ∧
    (s.axc.hsh.state = .holding → s.axc.vsh.state = .holding → s.rlm.queue = [] →
      let parks := fun t : State =>
        t.now = e ∧ t.axc.hsh.state = .parked ∧ t.axc.vsh.state = .parked ∧ t.rlm.axes.hsh = 0 ∧
        t.rlm.axes.vsh = 0 ∧ t.rlm.axes.zom = s.rlm.axes.zom ∧ t.rlm.axes.foc = s.rlm.axes.foc ∧
        t.rlm.brake = s.rlm.brake ∧ (∀ c, c = .ch0 ∨ c = .ch1 ∨ c = .ch2 ∨ c = .ch3 → (t.chan c).level = none) ∧
        t.axc.hsh.referenced = s.axc.hsh.referenced ∧ t.axc.vsh.referenced = s.axc.vsh.referenced ∧ t.lmm = s.lmm
      (s.brk.state = .engaging →
        ∃ t, exec .engageTimeExpiry s = .next t ∧ parks t ∧
          t.brk = { s.brk with state := .engaged, next := none, timer := none }) ∧
      (s.brk.state = .faulted → s.brk.clampPending = true →
        ∃ t, exec .clampPendingExpiry s = .next t ∧ parks t ∧
          t.brk = { s.brk with clampPending := false, timer := none })) ∧
    (∀ a, isShift a = true → (s.axis a).state = .waitStart → s.rlm.queue = [] →
      let s' := advanceTo e s
      let blocked : Prop := s.drv.window.isSome = true ∨ spacingAllows e s.rlm.grants = false ∨
        s.rlm.budget < s.rlm.sum + s.brk.settings.hit
      let engaged : Brk := { s.brk with state := .engaged, next := none, timer := none }
      (s.brk.state = .engaging → s.brk.next ≠ some .release →
        exec .engageTimeExpiry s = .next (formAlert { s' with brk := engaged })) ∧
      (s.brk.state = .faulted → s.brk.clampPending = true →
        exec .clampPendingExpiry s = .next (formAlert { s' with brk := { s.brk with clampPending := false, timer := none } })) ∧
      (s.brk.state = .engaging → s.brk.next = some .release → s.brk.releaseQueued = false → shiftDriven s = true →
        (blocked → exec .engageTimeExpiry s = .next (formAlert { s' with
          brk := { engaged with releaseQueued := true }
          rlm := { s.rlm with
            queue := [⟨.brake, .brake, s.brk.settings.hit, false, s.rlm.nextArrival, e⟩]
            nextArrival := s.rlm.nextArrival + 1 } })) ∧
        (¬blocked → exec .engageTimeExpiry s = .next (formAlert
          { driveChan .ch8 (some s.brk.settings.hit) s' with
            brk := { s.brk with
              state := .releasing, next := none, hitReached := false, dipSeen := false
              timer := some (e + s.brk.settings.hitTime) }
            rlm := { s.rlm with
              brake := s.brk.settings.hit, nextArrival := s.rlm.nextArrival + 1
              grants := (e :: s.rlm.grants).take 4 } })))) ∧
    (∀ a q, partnerOf a = some q → (s.axis a).state = .settling → (s.axis q).state = .holding → s.rlm.queue = [] →
      s.brk.state = .engaging →
      ∃ t, exec .engageTimeExpiry s = .next t ∧ t.axis a = { (advanceTo e s).axis a with mustPark := true } ∧
        t.chan (chansOf a).1 = s.chan (chansOf a).1 ∧ t.chan (chansOf a).2 = s.chan (chansOf a).2 ∧
        t.rlm.axes.get a = s.rlm.axes.get a ∧ (t.axis q).state = .parked ∧ t.rlm.axes.get q = 0)

/-- A fault of a shift axis forces the brake to engage: a stall (R19), or an OVERCURRENT or OPEN_LOAD of its channel
(R22, R29, R30). The axis is FAULTED at once, unreferenced, off, with entry 0, and its move ends. A RELEASED or
RELEASING brake turns CH8 off and starts the engage time, an ENGAGING one goes on without its next release, an ENGAGED
one is clamped (R43). The other shift axis decelerates to BRAKE_ENGAGED when it moves or homes, ends its start when it
waits, and is PARKED once it is at rest with the brake clamped (R23). OVERCURRENT or OPEN_LOAD of CH8 makes the brake
FAULTED with that cause (R31, R44): in RELEASING each shift axis that waits ends with BRAKE_FAULT and those that wait or
hold are PARKED; in RELEASED clamp pending starts with the engage time and moving shift axes decelerate. The model's
choices are: the clock of the check's expiry (log entry 2), the mark of a parking owed (12), BRAKE_ENGAGED in place of
an end already decided (13), the clamped stop point (23), the lower of HOLD and the entry (31), the partner's start that
ends PARKED or HOLDING, also one that waited from SETTLING (41), the settle completed first (51) and the FAULT notice
before MOTION_DONE (59). -/
def Obligations.ShiftAndSolenoidFaultsForceTheEngage : Prop :=
  ∀ s : State, LinkSettled s → s.rlm.queue = [] → (∀ a, (s.axis a).origin = .user) →
    let told := fun (n : Notice) (t : State) => ∀ p, (s.port p).Idle → Hears n (s.port p) →
      n ∈ (t.port p).queue ∨ (t.port p).transmitter = some (.notice n)
    let decelerated := fun (a : Axis) (r : AxisRec) => { r with
      turnPoint := clampReach r (r.position + r.dir.sign * (stopDistance r : Nat)), leg := .stop, profile := .decel
      phase := if (s.axis a).state = .moving then .decel else r.phase, endResult := some .brakeEngaged, mustPark := true }
    let parked := fun (a : Axis) (t : State) => (t.axis a).state = .parked ∧ t.rlm.axes.get a = 0 ∧
      (t.axis a).referenced = (s.axis a).referenced ∧ (t.chan (chansOf a).1).level = none ∧
      (t.chan (chansOf a).2).level = none
    (∀ a q, partnerOf a = some q → (s.axis a).granted = false → s.brk.releaseQueued = false →
      let forces := fun (i : Instr) (cause : AxisCause) (res : MoveResult) (e : Nat) =>
        let s' := advanceTo e s
        ∃ t, exec i s = .next t ∧ t.now = e ∧ (t.axis a).state = .faulted ∧ (t.axis a).faultCause = some cause ∧
          (t.axis a).referenced = false ∧ (t.axis a).position = (s'.axis a).position ∧
          (t.chan (chansOf a).1).level = none ∧ (t.chan (chansOf a).2).level = none ∧ t.rlm.axes.get a = 0 ∧
          ((s.axis a).state = .moving ∨ (s.axis a).state = .homing →
            told (.motionDone a .user res (s'.axis a).position) t) ∧
          (s.brk.state = .released ∨ s.brk.state = .releasing →
            t.brk = { s.brk with state := .engaging, next := none, timer := some (e + s.brk.settings.engageTime) } ∧
            (t.chan .ch8).level = none ∧ t.rlm.brake = 0) ∧
          (s.brk.state = .engaging → t.brk = { s.brk with next := none }) ∧
          (s.brk.state = .engaged ∨ s.brk.state = .faulted → t.brk = s.brk) ∧
          ((s.axis q).state = .moving ∨ (s.axis q).state = .homing → t.axis q = decelerated q (s'.axis q)) ∧
          ((s.axis q).state = .settling → t.axis q = { s'.axis q with mustPark := true }) ∧
          ((s.axis q).state = .holding → brakeClamped s.brk = false → t.axis q = { s'.axis q with mustPark := true }) ∧
          ((s.axis q).state = .holding → brakeClamped s.brk = true → parked q t) ∧
          ((s.axis q).state = .waitStart → (t.axis q).pendingTarget = none ∧
            ((t.axis q).state = .parked ∨ (t.axis q).state = .holding) ∧
            (brakeClamped s.brk = true → (t.axis q).state = .parked) ∧
            told (.motionDone q .user .brakeEngaged (s'.axis q).position) t) ∧
          ((s.axis q).state = .parked ∨ (s.axis q).state = .faulted → t.axis q = s'.axis q) ∧
          (∀ x, x ≠ a → x ≠ q → t.axis x = s'.axis x) ∧ t.lmm = s.lmm ∧ t.geo = s.geo ∧ t.sto = s.sto
      (∀ v : Byte, (s.axis a).state = .moving → (s.axis a).phase = .cruise → (s.axis a).speedClass ≠ .slow →
        v.toNat < (s.axis a).settings.stall → (s.axis a).lowLoad = 3 →
        forces (.loadIndicator a v) .stall .stall s.now) ∧
      (∀ c m, ownerOf c = some a → (s.chan c).level.isSome = true → 1400 < m →
        forces (.overcurrentDetected c m) .overcurrent .fault s.now) ∧
      (∀ c e, ownerOf c = some a → (s.chan c).check = some e → s.now ≤ e →
        forces (.openLoadCheckExpiry c) .openLoad .fault e)) ∧
    (s.brk.state = .releasing → CoilsFollowTheStates s →
      let fails := fun (i : Instr) (latch : Latch) (cause : BrakeCause) (e : Nat) =>
        let s' := advanceTo e s
        ∃ t, exec i s = .next t ∧ t.now = e ∧ NoticeSent (.fault (.channel .ch8 latch)) s t ∧
          (t.chan .ch8).level = none ∧ (t.chan .ch8).latched = true ∧ t.rlm.brake = 0 ∧
          t.brk = { s.brk with state := .faulted, cause := some cause, next := none, timer := none } ∧
          (∀ a, isShift a = true →
            ((s.axis a).state = .waitStart ∨ (s.axis a).state = .holding → parked a t) ∧
            ((s.axis a).state = .settling → t.axis a = { s'.axis a with mustPark := true }) ∧
            ((s.axis a).state = .waitStart → told (.motionDone a .user .brakeFault (s'.axis a).position) t)) ∧
          (∀ a, isShift a = false → t.axis a = s'.axis a) ∧ t.lmm = s.lmm ∧ t.geo = s.geo ∧ t.sto = s.sto
      (∀ m, 1400 < m → fails (.overcurrentDetected .ch8 m) .overcurrent .overcurrent s.now) ∧
      (∀ e, (s.chan .ch8).check = some e → s.now ≤ e → fails (.openLoadCheckExpiry .ch8) .openLoad .openLoad e)) ∧
    (∀ m, s.brk.state = .released → (s.chan .ch8).level.isSome = true → 1400 < m →
      ∃ t, exec (.overcurrentDetected .ch8 m) s = .next t ∧ t.now = s.now ∧
        NoticeSent (.fault (.channel .ch8 .overcurrent)) s t ∧ (t.chan .ch8).level = none ∧
        (t.chan .ch8).overcurrent = true ∧ t.rlm.brake = 0 ∧
        t.brk = { s.brk with
          state := .faulted, cause := some .overcurrent, next := none, clampPending := true
          timer := some (s.now + s.brk.settings.engageTime) } ∧
        (∀ a, isShift a = true →
          ((s.axis a).state = .moving ∨ (s.axis a).state = .homing → t.axis a = decelerated a (s.axis a)) ∧
          ((s.axis a).state = .settling ∨ (s.axis a).state = .holding →
            t.axis a = { s.axis a with mustPark := true })) ∧
        (∀ a, isShift a = false → t.axis a = s.axis a) ∧ t.lmm = s.lmm ∧ t.geo = s.geo ∧ t.sto = s.sto)

/-! ### RAIL_LOW and calibration -/

/-- RAIL_LOW (R22, R34, R43, R47, R62): at its begin every channel is off, every energised axis is FAULTED with cause
RAIL_LOW and unreferenced, the entries of the axes and the brake are 0, and a FAULT notice is produced; an axis that was
PARKED and de-energised keeps its state and its reference. Its end restores nothing. A condition that stands already
changes nothing. That RAIL_LOW_END with no condition standing changes nothing is the model's choice (log entry 2), and so
is the FAULT notice before those of the moves that end (log entry 59). -/
def Obligations.RailLowFaultsEveryEnergisedAxis : Prop :=
  ∀ s : State, LinkSettled s →
    (s.drv.railLow = true → exec .railLowBegin s = .next (formAlert s)) ∧
    (s.drv.railLow = false → exec .railLowEnd s = .next (formAlert s)) ∧
    (s.drv.railLow = true → exec .railLowEnd s =
      .next (formAlert (produce (.fault (.railLow false)) { s with drv := { s.drv with railLow := false } }))) ∧
    (s.drv.railLow = false →
      ∃ t, exec .railLowBegin s = .next t ∧ t.drv.railLow = true ∧ (∀ c, (t.chan c).level = none) ∧
        (∀ a, energised s a = true → (t.axis a).state = .faulted ∧ (t.axis a).faultCause = some .railLow ∧
          (t.axis a).referenced = false ∧ (t.axis a).position = (s.axis a).position) ∧
        (∀ a, energised s a = false → (s.axis a).state = .parked → (t.axis a).state = .parked ∧
          (t.axis a).referenced = (s.axis a).referenced) ∧
        t.rlm.axes = PerAxis.all 0 ∧ t.rlm.brake = 0 ∧
        (∀ q ∈ t.rlm.queue, ∃ f, q.requester = .fan f) ∧
        NoticeSent (.fault (.railLow true)) s t ∧ t.now = s.now ∧ t.sto = s.sto)

/-- Calibration (R36, R37, R57): the run falls due 30 minutes after the last one; a due run opens the window for 30 ms
once every channel is off; at its close every channel stores its zero reading saturated to -64..+63, and the run is due
no more. A stored offset outside -48..+48 latches CALIB: a FAULT notice names the channel, the axis that owns it is
FAULTED with cause CALIB and unreferenced (R5, R22), and an ENGAGED brake is FAULTED with cause CALIB by CH8 (R44).
CALIBRATE (R38) is BUSY while a channel is driven; with the window open already it marks the run as requested; else the
run falls due, is marked as requested, and the window opens. That a command without its condition does nothing and that
an expiry moves the clock is the model's choice (log entry 2), and so is the cause CALIB of an axis FAULTED already (log
entry 24), the notice of the lowest channel first (log entry 48), and the FAULT notices before MOTION_DONE (log entry
59). -/
def Obligations.CalibrationOpensJudgesAndCloses : Prop :=
  ∀ s : State, LinkSettled s →
    (s.drv.due = true → exec .calibrationDueTimer s = .next (formAlert s)) ∧
    (s.drv.due = false → (∃ c, (s.chan c).level.isSome = true) → s.drv.window = none →
      ∃ t, exec .calibrationDueTimer s = .next t ∧ t.drv = { s.drv with due := true } ∧
        t.now = max s.now (s.drv.lastRun + 1800000)) ∧
    (s.drv.due = true → s.drv.window = none → (∀ c, (s.chan c).level = none) →
      exec .calibrationWindowOpen s =
        .next (formAlert { s with drv := { s.drv with window := some (s.now + 30) } })) ∧
    (s.drv.due = false ∨ s.drv.window.isSome = true ∨ (∃ c, (s.chan c).level.isSome = true) →
      exec .calibrationWindowOpen s = .next (formAlert s)) ∧
    (∀ zeros, s.drv.window = none → exec (.calibrationWindowClose zeros) s = .next (formAlert s)) ∧
    (∀ zeros e, s.drv.window = some e → s.now ≤ e → s.rlm.queue = [] → CoilsFollowTheStates s →
      let offset := fun c => clampInt (-64) 63 (zeros.get c)
      let fails := fun c => offset c < -48 ∨ 48 < offset c
      let hurt := fun a => fails (chansOf a).1 ∨ fails (chansOf a).2
      ∃ t, exec (.calibrationWindowClose zeros) s = .next t ∧ t.now = e ∧ t.drv.window = none ∧ t.drv.due = false ∧
        t.drv.lastRun = e ∧ t.drv.requested = false ∧
        t.drv.calibrateDone = (s.drv.calibrateDone || s.drv.requested) ∧ t.start.windowClosed = true ∧
        (∀ c, (t.chan c).offset = offset c ∧ (t.chan c).calib = ((s.chan c).calib || decide (fails c)) ∧
          (t.chan c).level = none ∧ (t.chan c).overcurrent = (s.chan c).overcurrent ∧
          (t.chan c).openLoad = (s.chan c).openLoad) ∧
        (∀ c, (allChans.filter fun d => decide (fails d)).head? = some c →
          NoticeSent (.fault (.channel c .calib)) s t) ∧
        (∀ a, hurt a → (t.axis a).state = .faulted ∧ (t.axis a).faultCause = some .calib ∧
          (t.axis a).referenced = false ∧ (t.axis a).position = ((advanceTo e s).axis a).position) ∧
        (∀ a, ¬hurt a → (s.axis a).state = .parked ∨ (s.axis a).state = .faulted →
          t.axis a = (advanceTo e s).axis a) ∧
        (fails .ch8 → s.brk.state = .engaged → t.brk.state = .faulted ∧ t.brk.cause = some .calib ∧
          t.brk.clampPending = s.brk.clampPending) ∧
        ((∀ c, ¬fails c) → t = { advanceTo e s with
          drv := t.drv, start := { s.start with windowClosed := true }, lnk := t.lnk })) ∧
    (∀ (p : Port) (tag : Byte), LinkReady p s →
    ((∃ c, (s.chan c).level.isSome = true) →
      exec (.calibrate p tag) s = .next (replied p tag .calibrate (refuse .busy) s)) ∧
    ((∀ c, (s.chan c).level = none) →
      (s.drv.window.isSome = true → exec (.calibrate p tag) s = .next (replied p tag .calibrate okAnswer
        { s with drv := { s.drv with requested := true, calibrateDone := false } })) ∧
      (s.drv.window = none → exec (.calibrate p tag) s = .next (replied p tag .calibrate okAnswer
        { s with drv := { s.drv with
            window := some (s.now + 30), due := true, requested := true, calibrateDone := false } }))))

/-! ### Scans, control periods and fans -/

/-- SCAN_END as SSC and GEO take it (R115, R117, R118, R119, R120, R122, R126): the next scan is 100 ms later, the scan
counter rises (saturating), and every channel's record takes its code. On the eight external channels a code of 40 or
less is SHORT and one above 4054 OPEN, and both leave the delay line and its mean as they were; any other code is OK and
enters the line, converted, which is filled by the first one; on DIE and RAIL every code is OK. The published set holds
each channel's flag and smoothed value, and the pitch with the sign of the effective orientation (R123). A hold measures
how long TLZ has stood below 1,648 or above 2,448; at 3,000 ms the orientation is decided, and a change of it is told by
an ORIENTATION notice and taken by GEO in mount mode AUTO (R90, R124, R125). In keystone mode AUTO, with no staged
geometry and a good pitch, V is evaluated when a refresh is due, the pitch has moved by 8 or the zoom band has changed:
an accepted candidate becomes the record's V, another sets GEOM_HOLD, and the input is handed (R87, R93, R94, R95).
FCP forms offset_now from a good LNS value and the zoom band, with the table value kept exact until the one rounding, and
leaves it with a faulted one (R92, R157). That the command moves the clock to the end of the scan is the model's choice
(log entry 2), and so is the ORIENTATION notice ahead of those of the readers, as the orientation is judged before they
take the set (log entry 8). -/
def Obligations.ScanEndPublishesTheSet : Prop :=
  ∀ (s : State) (codes : PerSensor Code12), LinkSettled s → s.now ≤ s.ssc.nextScan →
    let entered := fun (conv : Nat → Int) (old new : SensorRec) (c : Code12) =>
      new.flag = .ok ∧ new.filled = true ∧
      new.line = (if old.filled then old.line.drop 1 ++ [conv c.toNat] else List.replicate 8 (conv c.toNat)) ∧
      new.smoothed = some (roundDiv (sumInt new.line) 8)
    let external := fun (conv : Nat → Int) (old new : SensorRec) (c : Code12) =>
      new.code = c.toNat ∧
      (c.toNat ≤ 40 → new = { old with code := c.toNat, flag := .short }) ∧
      (4054 < c.toNat → new = { old with code := c.toNat, flag := .opened }) ∧
      (40 < c.toNat → c.toNat ≤ 4054 → entered conv old new c)
    let thermistor := external (thermoSample s.ssc.conversion)
    let o := s.ssc.chans
    let fc := fun (i : Nat) => s.fcp.comp.getD i 0
    let fifty := fun (x : Int) =>
      if x ≤ 100 then 50 * fc 0 else if 500 ≤ x then 50 * fc 8
      else
        let i := ((x - 100) / 50).toNat
        50 * fc i + (fc (i + 1) - fc i) * (x - (100 + 50 * (i : Int)))
    ∃ t, exec (.scanEnd codes) s = .next t ∧ t.now = s.ssc.nextScan ∧ t.ssc.nextScan = s.ssc.nextScan + 100 ∧
      t.ssc.scans = satSucc 65535 s.ssc.scans ∧ t.ssc.conversion = s.ssc.conversion ∧
      thermistor o.thermo.lsb t.ssc.chans.thermo.lsb codes.thermo.lsb ∧
      thermistor o.thermo.img t.ssc.chans.thermo.img codes.thermo.img ∧
      thermistor o.thermo.lns t.ssc.chans.thermo.lns codes.thermo.lns ∧
      thermistor o.thermo.ain t.ssc.chans.thermo.ain codes.thermo.ain ∧
      thermistor o.thermo.aex t.ssc.chans.thermo.aex codes.thermo.aex ∧
      thermistor o.thermo.psu t.ssc.chans.thermo.psu codes.thermo.psu ∧
      external (pitchSample s.ssc.tiltZero) o.tlx t.ssc.chans.tlx codes.tlx ∧
      external (fun c => (c : Int)) o.tlz t.ssc.chans.tlz codes.tlz ∧
      t.ssc.chans.die.code = codes.die.toNat ∧ entered dieSample o.die t.ssc.chans.die codes.die ∧
      t.ssc.chans.rail.code = codes.rail.toNat ∧ entered railSample o.rail t.ssc.chans.rail codes.rail ∧
      (t.ssc.chans.thermo.lns.flag = .ok → t.axc.zom.referenced = s.axc.zom.referenced →
        let band := if s.axc.zom.referenced then zoomBandAt s.axc.zom.settings (t.axis .zom).position else s.geo.bandUsed
        ∀ x, t.ssc.chans.thermo.lns.smoothed = some x →
          t.fcp.offsetNow = roundDiv (fifty x * s.fcp.zoom.getD band 0) (50 * 4096) ∧ t.fcp.offsetKnown = true ∧
          t.fcp.lnsUsed = some x) ∧
      (t.ssc.chans.thermo.lns.flag ≠ .ok → t.fcp.offsetNow = s.fcp.offsetNow ∧ t.fcp.offsetKnown = s.fcp.offsetKnown ∧
        t.fcp.lnsUsed = s.fcp.lnsUsed) ∧
      t.fcp.comp = s.fcp.comp ∧ t.fcp.zoom = s.fcp.zoom ∧
      (∃ p, t.ssc.published = some p ∧ (p.chans = t.ssc.chans.map fun r => ⟨r.flag, r.smoothed⟩) ∧
        (let signed := fun w => t.ssc.chans.tlx.smoothed.map (signedPitch w)
         (t.ssc.detected = s.ssc.detected → p.pitch = signed s.ssc.effective) ∧
         (p.pitch = signed s.ssc.effective ∨ p.pitch = signed t.ssc.effective)) ∧
        (s.lmm.staged = none → s.lmm.active = false → t.axc.zom.referenced = s.axc.zom.referenced →
          let g := s.geo.live.geom
          let usable : Prop := g.mode = .auto ∧ t.ssc.chans.tlx.flag = .ok
          let band := if s.axc.zom.referenced then zoomBandAt s.axc.zom.settings (t.axis .zom).position else s.geo.bandUsed
          let same : Prop := t.geo.live = s.geo.live ∧ t.geo.phiUsed = s.geo.phiUsed ∧ t.geo.bandUsed = s.geo.bandUsed ∧
            t.geo.refreshDue = s.geo.refreshDue
          (¬usable ∨ p.pitch = none → same ∧ t.geo.geomHold = s.geo.geomHold) ∧
          (∀ x, p.pitch = some x →
            let phi := clampInt (-256) 256 x
            let v := candidateV s.geo phi band
            let due : Prop := s.geo.refreshDue = true ∨ 8 ≤ (phi - s.geo.phiUsed).natAbs ∨ band ≠ s.geo.bandUsed
            (¬due → same ∧ t.geo.geomHold = s.geo.geomHold) ∧
            (usable → due → v = g.v ∨ judgeQuad (quadOf { g with v := v }) = none →
              t.geo.live = { s.geo.live with geom := { g with v := v } } ∧ t.geo.phiUsed = phi ∧ t.geo.bandUsed = band ∧
              t.geo.refreshDue = false ∧ t.geo.geomHold = false ∧
              (v ≠ g.v → t.geo.quad = quadOf { g with v := v })) ∧
            (usable → due → v ≠ g.v → judgeQuad (quadOf { g with v := v }) ≠ none → same ∧ t.geo.geomHold = true)) ∧
          t.geo.lastHanded = some (warpInput t.geo))) ∧
      (let z := t.ssc.chans.tlz
       let down : Prop := z.flag = .ok ∧ z.smoothed.getD 2048 < 1648
       let up : Prop := z.flag = .ok ∧ 2448 < z.smoothed.getD 2048
       let raised := fun (o : Orientation) (h : Nat) => if s.ssc.run = some o then min 3000 (h + 100) else 0
       (down → t.ssc.ceilHold = raised .ceiling s.ssc.ceilHold ∧ t.ssc.run = some .ceiling) ∧
       (¬down → t.ssc.ceilHold = 0) ∧ (up → t.ssc.floorHold = raised .floor s.ssc.floorHold ∧ t.ssc.run = some .floor) ∧
       (¬up → t.ssc.floorHold = 0) ∧ (¬down → ¬up → t.ssc.run = none) ∧
       (t.ssc.ceilHold = 3000 → t.ssc.detected = .ceiling ∧ t.ssc.decided = true) ∧
       (t.ssc.floorHold = 3000 → t.ssc.detected = .floor ∧ t.ssc.decided = true) ∧
       (t.ssc.ceilHold ≠ 3000 → t.ssc.floorHold ≠ 3000 →
         t.ssc.detected = s.ssc.detected ∧ t.ssc.decided = s.ssc.decided) ∧
       (t.ssc.detected = s.ssc.detected → t.geo.orientation = s.geo.orientation ∧ t.ssc.effective = s.ssc.effective) ∧
       (t.ssc.detected ≠ s.ssc.detected → t.ssc.effective = t.geo.orientation ∧
         (s.geo.live.mount = .auto → t.geo.orientation = t.ssc.detected) ∧
         (s.geo.live.mount = .floor → t.geo.orientation = .floor) ∧
         (s.geo.live.mount = .ceiling → t.geo.orientation = .ceiling) ∧
         ∀ p n, n = .orientation t.ssc.detected (z.smoothed.getD 0) → (s.port p).Idle → Hears n (s.port p) →
           ¬Hears (.fault .noRelease) (s.port p) → (t.port p).transmitter = some (.notice n))) ∧
      t.sto = s.sto ∧ t.start.kind = s.start.kind ∧ t.lmm.presets = s.lmm.presets

/-- SCAN_END as THS, AXC, RLM, FAN and DRV take it. The used temperatures and the raw level are those of the new set
(R143, R144). A raw level above the regime is taken at once; the regime leaves a level only when its condition holds
(R145). The holds of EMERGENCY rise by 100, and one that reaches its end makes the regime SHUTDOWN with its cause, LSEN
deasserted and L 0 (R147, R148). A change is told by a REGIME notice. On entry to EMERGENCY or SHUTDOWN every moving or
homing axis decelerates to THERMAL, a holding ZOM or FOC is PARKED, a start that waits is withdrawn, every capped duty
is 1000 and L is 200 or 0 (R24, R61, R136, R146, R150). DRIVER_HOT begins at 140.0 °C and ends below 120.0 °C, with a
FAULT notice; at its begin, in a scan that leaves the regime, and with an empty start queue or the coils as the states
give them (R2, R37), every channel is off, every energised axis is FAULTED and unreferenced, and the brake is not left
released (R22, R33, R43). The model's choices are: the clock moved (log entry
2), THERMAL in place of an end already decided (13) and the clamped stop point (23). -/
def Obligations.ScanEndSupervisesTheHeat : Prop :=
  ∀ (s : State) (codes : PerSensor Code12), LinkSettled s → s.now ≤ s.ssc.nextScan →
    s.rlm.queue = [] ∨ s.drv.window.isSome = true → s.ths.critRun = PerThermo.all false ∨ s.ths.regime = .emergency →
    let s' := advanceTo s.ssc.nextScan s
    let h := s.ths
    ∃ t, exec (.scanEnd codes) s = .next t ∧ t.now = s.ssc.nextScan ∧ t.sto = s.sto ∧ t.ths.limits = h.limits ∧
      ∃ p u d, t.ssc.published = some p ∧ t.ths.used = some u ∧ p.chans.die.value = some d ∧
        (u = p.chans.thermo.zipWith (fun x l => if x.flag = .ok then ⟨x.value.getD l.high, false⟩ else ⟨l.high, true⟩)
          h.limits) ∧
        t.ths.raw = rawLevel u h.limits (fanLatches s) ∧ t.ths.fanFaults = fanLatches s ∧
        (let reaches := fun (edge : Limit → Int) =>
           (u.zipWith (fun x l => decide (edge l ≤ x.temp)) h.limits).toList.any id
         let ff := fanLatches s
         let leaves : Prop :=
           (h.regime = .emergency ∧ reaches (fun l => l.crit - h.hyst) = false ∧ ff.fan0 = false) ∨
           (h.regime = .override ∧ reaches (fun l => l.high - h.hyst) = false ∧ ff.fan1 = false ∧ ff.fan2 = false ∧
             u.toList.all (fun x => !x.faulted) = true) ∨
           (h.regime = .limited ∧ reaches (fun l => l.warn - h.hyst) = false)
         let hot := u.zipWith (fun x l => decide (l.crit ≤ x.temp)) h.limits
         let crit := ((hot.zipWith (fun now run => (now, run)) h.critRun).zipWith
           (fun nr old => if nr.1 then (if nr.2 then min 10000 (old + 100) else 0) else 0) h.critHold)
         let held := min 60000 (h.emergencyHold + 100)
         (h.regime = .shutdown → t.ths.regime = .shutdown ∧ t.ths.causeCrit = h.causeCrit ∧
           t.ths.causeEmergency = h.causeEmergency) ∧
         (h.regime ≠ .shutdown → regimeCode h.regime < regimeCode t.ths.raw → t.ths.regime = t.ths.raw) ∧
         (h.regime ≠ .shutdown → h.regime ≠ .emergency → regimeCode t.ths.raw ≤ regimeCode h.regime →
           regimeCode t.ths.raw ≤ regimeCode t.ths.regime ∧ regimeCode t.ths.regime ≤ regimeCode h.regime ∧
           (¬leaves → t.ths.regime = h.regime) ∧
           (leaves → regimeCode t.ths.raw < regimeCode h.regime → regimeCode t.ths.regime < regimeCode h.regime)) ∧
         (h.regime = .emergency →
           (leaves → t.ths.raw ≠ .emergency → t.ths.regime ≠ .emergency ∧ t.ths.regime ≠ .shutdown) ∧
           (¬leaves ∨ t.ths.raw = .emergency →
             let ends : Prop := (∃ x ∈ crit.toList, x = 10000) ∨ held = 60000
             (¬ends → t.ths.regime = .emergency ∧ t.ths.critHold = crit ∧ t.ths.emergencyHold = held ∧
               t.ths.critRun = hot) ∧
             (ends → t.ths.regime = .shutdown ∧ t.ths.causeCrit = crit.map (fun x => decide (x = 10000)) ∧
               t.ths.causeEmergency = decide (held = 60000) ∧ t.ths.lsen = false ∧ t.ths.lightEnable = false ∧
               t.ths.lightDemand = h.lightDemand ∧ t.ths.limit = 0 ∧ t.ths.critHold = PerThermo.all 0 ∧
               t.ths.emergencyHold = 0)))) ∧
        (t.ths.regime ≠ .shutdown → t.ths.regime ≠ .emergency → h.regime ≠ .shutdown →
          t.ths.critHold = PerThermo.all 0 ∧ t.ths.emergencyHold = 0) ∧
        (t.ths.regime ≠ .shutdown → t.ths.lsen = h.lsen ∧ t.ths.lightEnable = h.lightEnable) ∧
        (t.ths.regime ≠ h.regime →
          ∀ n, n = .regime h.regime t.ths.regime t.ths.raw u (fanLatches s) →
            ∀ q, (s.port q).Idle → Hears n (s.port q) → ¬Hears (.fault .noRelease) (s.port q) →
              n ∈ (t.port q).queue ∨ (t.port q).transmitter = some (.notice n)) ∧
        (t.ths.regime ≠ h.regime → t.ths.regime = .emergency ∨ t.ths.regime = .shutdown →
          t.ths.limit = (if t.ths.regime = .emergency then 200 else 0) ∧ (∀ f, (t.fanRec f).cappedDuty = 1000) ∧
          (d < 1400 ∨ s.drv.driverHot = true →
            ∀ a,
              ((s.axis a).state = .moving ∨ (s.axis a).state = .homing → t.axis a = { s'.axis a with
                turnPoint := clampReach (s'.axis a)
                  ((s'.axis a).position + (s'.axis a).dir.sign * (stopDistance (s'.axis a) : Nat))
                leg := .stop, profile := .decel
                phase := if (s.axis a).state = .moving then .decel else (s'.axis a).phase
                endResult := some .thermal }) ∧
              ((s.axis a).state = .holding → isShift a = false → (t.axis a).state = .parked ∧
                (t.axis a).referenced = (s.axis a).referenced ∧ (t.chan (chansOf a).1).level = none ∧
                (t.chan (chansOf a).2).level = none ∧ t.rlm.axes.get a = 0) ∧
              ((s.axis a).state = .waitStart → (t.axis a).state ≠ .waitStart ∧ (t.axis a).pendingTarget = none ∧
                ∀ q ∈ t.rlm.queue, q.requester ≠ .axis a) ∧
              ((s.axis a).state = .parked ∨ (s.axis a).state = .faulted → t.axis a = s'.axis a))) ∧
        (∀ began n, n = .fault (.driverHot began) → t.drv.driverHot = began → s.drv.driverHot ≠ began →
          (t.ssc.chans.map fun r => r.flag) = (s.ssc.chans.map fun r => r.flag) →
          ∀ q, (s.port q).Idle → Hears n (s.port q) →
            n ∈ (t.port q).queue ∨ (t.port q).transmitter = some (.notice n)) ∧
        (s.drv.driverHot = true → t.drv.driverHot = decide (1200 ≤ d)) ∧
        (s.drv.driverHot = false → t.drv.driverHot = decide (1400 ≤ d)) ∧
        (s.drv.driverHot = false → 1400 ≤ d → t.ths.regime = h.regime → s.rlm.queue = [] ∨ CoilsFollowTheStates s →
          (∀ c, (t.chan c).level = none) ∧ t.brk.state ≠ .released ∧ t.brk.state ≠ .releasing ∧
          ∀ a, energised s a = true → (t.axis a).state = .faulted ∧ (t.axis a).faultCause = some .driverHot ∧
            (t.axis a).referenced = false ∧ (t.axis a).position = (s'.axis a).position ∧ t.rlm.axes.get a = 0)

/-- CONTROL_PERIOD (R128, R130, R131, R134, R135, R137, R138, R159, R160): the period timer starts again for one second;
each fan's demand is the curves' and its cap the one in force. A STOPPED or SPINUP fan's applied duty moves toward the
capped duty by at most +50 or -20; in EMERGENCY and SHUTDOWN the capped duty is 1000 with no cap, and the duty goes there
in one step. A RUNNING fan's duty does so too: a decrease is taken, and an increase is taken when the rail has room for
it, and else clamped to the room there is, with RAIL_LIMITED. With several RUNNING fans whose duties rise, in any order,
the table stays within the budget, each duty is the one wanted or clamped where one more permille would not fit, and all
are taken when all fit. A fan's output is 0 in STOPPED and its applied duty otherwise. The tach is judged for a fan that
was RUNNING for the whole period: below half the expected speed the low count rises, to the FAN_FAULT latch and its FAULT
notice at 3, and otherwise it is 0. A compensation move that R159 allows leaves FOC waiting for its grant with a COMP
request, and one that R159 holds back changes nothing. All this with the window open or compensation held back, so that
nothing is granted. A decrease of a RUNNING fan's duty starts an examination of the queue, also where its entry stays
equal (R63): with no fan's duty rising, the window closed and the spacing met, the start of ZOM or FOC that waits alone
and fits is granted in that event, and the axis begins its move at 2 × RUN. That the command moves the clock to the
timer's expiry is the model's choice (log entry 2), and so are the whole rpm of the expected speed in the notice and a
measured rpm held at 65,535 (log entry 16). -/
def Obligations.ControlPeriodSteersTheFans : Prop :=
  (∀ s : State, LinkSettled s → (∀ f, (s.fanRec f).lowCount ≤ 3) → s.now ≤ s.fan.nextPeriod → s.rlm.queue = [] →
    let s' := advanceTo s.fan.nextPeriod s
    let closed : Prop := s.ths.regime = .emergency ∨ s.ths.regime = .shutdown
    let capped := fun (f : Fan) => if closed then 1000 else min (demandOf s f) ((capNow s f).getD (demandOf s f))
    let want := fun (f : Fan) =>
      if closed then 1000
      else if (s.fanRec f).applied < capped f then min ((s.fanRec f).applied + 50) (capped f)
      else max ((s.fanRec f).applied - 20) (capped f)
    (compHold s' ≠ .none ∨ s.drv.window.isSome = true) →
    ∃ t, exec .controlPeriod s = .next t ∧ t.now = s.fan.nextPeriod ∧
      t.fan.nextPeriod = s.fan.nextPeriod + 1000 ∧
      (∀ f, (t.fanRec f).demand = demandOf s f ∧ (t.fanRec f).cap = capNow s f ∧
        (t.fanRec f).cappedDuty = capped f ∧ (closed → (t.fanRec f).capped = false ∧ (t.fanRec f).cap = none) ∧
        (t.fanRec f).state = (s.fanRec f).state ∧
        (t.fanRec f).output = (if (s.fanRec f).state = .stopped then 0 else (t.fanRec f).applied)) ∧
      (∀ f, (s.fanRec f).state ≠ .running →
        (t.fanRec f).applied = want f ∧ t.rlm.fans.get f = s.rlm.fans.get f) ∧
      (∀ f, (s.fanRec f).state = .running → s.rlm.fans.get f = fanEntry f (s.fanRec f).applied →
        (want f ≤ (s.fanRec f).applied → (t.fanRec f).applied = want f ∧
          (t.fanRec f).railLimited = false ∧ t.rlm.fans.get f = fanEntry f (t.fanRec f).applied) ∧
        ((s.fanRec f).applied < want f → RailSound s →
          (∀ g, g ≠ f → (s.fanRec g).state ≠ .running) →
          let room := s.rlm.budget - s.rlm.sum + s.rlm.fans.get f
          (fanEntry f (want f) ≤ room → (t.fanRec f).applied = want f ∧ (t.fanRec f).railLimited = false) ∧
          (room < fanEntry f (want f) →
            (t.fanRec f).applied = room * 1000 / ratedCurrent f ∧ (t.fanRec f).railLimited = true) ∧
          t.rlm.fans.get f = fanEntry f (t.fanRec f).applied)) ∧
      (RailSound s → (∀ f, (s.fanRec f).state = .running →
          s.rlm.fans.get f = fanEntry f (s.fanRec f).applied ∧ (s.fanRec f).applied ≤ want f) →
        let rise := fun (f : Fan) =>
          if (s.fanRec f).state = .running then fanEntry f (want f) - s.rlm.fans.get f else 0
        t.rlm.sum ≤ s.rlm.budget ∧
        (∀ f, (s.fanRec f).state = .running →
          t.rlm.fans.get f = fanEntry f (t.fanRec f).applied ∧ (s.fanRec f).applied ≤ (t.fanRec f).applied ∧
          ((t.fanRec f).railLimited = false → (t.fanRec f).applied = want f) ∧
          ((t.fanRec f).railLimited = true → (t.fanRec f).applied < want f ∧
            s.rlm.budget < t.rlm.sum - t.rlm.fans.get f + fanEntry f ((t.fanRec f).applied + 1))) ∧
        (s.rlm.sum + rise .fan0 + rise .fan1 + rise .fan2 ≤ s.rlm.budget →
          ∀ f, (s.fanRec f).state = .running → (t.fanRec f).railLimited = false)) ∧
      (∀ f,
        let rpm := min 65535 (30 * (s.fanRec f).pulses)
        let judged : Prop := (s.fanRec f).state = .running ∧ (s.fanRec f).wholePeriod = true
        let slow : Prop := 2000 * rpm < ratedRpm f * (s.fanRec f).dutyMin
        let n := .fault (.fan f rpm (expectedRpm f (s.fanRec f).dutyMin))
        (t.fanRec f).rpm = rpm ∧ (t.fanRec f).pulses = 0 ∧
        (t.fanRec f).wholePeriod = decide ((s.fanRec f).state = .running) ∧
        (¬judged → (t.fanRec f).lowCount = (s.fanRec f).lowCount ∧ (t.fanRec f).fanFault = (s.fanRec f).fanFault) ∧
        (judged → ¬slow → (t.fanRec f).lowCount = 0 ∧ (t.fanRec f).fanFault = (s.fanRec f).fanFault) ∧
        (judged → slow → (t.fanRec f).lowCount = satSucc 3 (s.fanRec f).lowCount ∧
          (t.fanRec f).fanFault = ((s.fanRec f).fanFault || (s.fanRec f).lowCount = 2 || (s.fanRec f).lowCount = 3) ∧
          ((s.fanRec f).lowCount = 2 → (s.fanRec f).fanFault = false →
            ∀ p, (s.port p).Idle → Hears n (s.port p) →
              n ∈ (t.port p).queue ∨ (t.port p).transmitter = some (.notice n)))) ∧
      (compHold s' ≠ .none → t.axc = s'.axc ∧ t.fcp = s.fcp ∧ t.rlm.queue = []) ∧
      (compHold s' = .none → motionCheck s' .foc .absolute = none → zeroLength s'.axc.foc (compTarget s') = false →
        t.axc.foc.state = .waitStart ∧ t.axc.foc.pendingTarget = some (compTarget s') ∧ t.axc.foc.origin = .comp ∧
        t.axc.foc.speedClass = .normal ∧ t.axc = s'.axc.set .foc t.axc.foc ∧
        t.fcp = { s.fcp with moveActive := true, lastStart := some s.fan.nextPeriod } ∧
        t.rlm.queue = [⟨.axis .foc, .comp, (axisNeed s .foc).1, false, s.rlm.nextArrival, s.fan.nextPeriod⟩]) ∧
      t.rlm.axes = s.rlm.axes ∧ t.rlm.brake = s.rlm.brake ∧ t.rlm.budget = s.rlm.budget ∧ t.ths = s.ths ∧
      t.ssc = s.ssc ∧ t.geo = s.geo ∧ t.lmm = s.lmm ∧ t.sto = s.sto) ∧
  ∀ (s : State) (a : Axis) (cls : StartClass) (need n t0 : Nat) (ph : Bool) (y : Int), LinkSettled s →
    s.now ≤ s.fan.nextPeriod → partnerOf a = none → s.rlm.queue = [⟨.axis a, cls, need, ph, n, t0⟩] →
    (s.axis a).state = .waitStart → (s.axis a).origin ≠ .home → (s.axis a).pendingTarget = some y →
    s.drv.window = none → spacingAllows s.fan.nextPeriod s.rlm.grants = true →
    s.rlm.sum + (2 * (s.axis a).settings.run - s.rlm.axes.get a) ≤ s.rlm.budget →
    s.ths.regime ≠ .emergency → s.ths.regime ≠ .shutdown → compHold (advanceTo s.fan.nextPeriod s) ≠ .none →
    let target := fun (f : Fan) => min (demandOf s f) ((capNow s f).getD (demandOf s f))
    (∀ f, (s.fanRec f).state = .running →
      s.rlm.fans.get f = fanEntry f (s.fanRec f).applied ∧ target f ≤ (s.fanRec f).applied) →
    (∃ f, (s.fanRec f).state = .running ∧ target f < (s.fanRec f).applied) →
    ∃ t, exec .controlPeriod s = .next t ∧ (t.axis a).state = .moving ∧ (t.axis a).target = y ∧ t.rlm.queue = [] ∧
      t.rlm.axes.get a = 2 * (s.axis a).settings.run ∧ t.rlm.grants = (s.fan.nextPeriod :: s.rlm.grants).take 4 ∧
      ∀ f, (s.fanRec f).state = .running →
        (t.fanRec f).applied = max ((s.fanRec f).applied - 20) (target f) ∧
        t.rlm.fans.get f = fanEntry f (t.fanRec f).applied

/-- TACH_PULSE counts in its fan's record alone, and SPINUP_EXPIRY makes a SPINUP fan RUNNING, stops its timer and lowers
its entry to the one of its applied duty (R47, R63, R129, R138). That SPINUP_EXPIRY does nothing on a fan that is not in
SPINUP, and that it moves the clock, is the model's choice (log entry 2), and so is an entry that the report never raises
(log entry 31). -/
def Obligations.FanEventsActOnTheirFan : Prop :=
  ∀ (s : State) (f : Fan), LinkSettled s →
    exec (.tachPulse f) s =
      .next (formAlert (s.setFan f { s.fanRec f with pulses := (s.fanRec f).pulses + 1 })) ∧
    ((s.fanRec f).state ≠ .spinup → exec (.spinupExpiry f) s = .next (formAlert s)) ∧
    (∀ e, (s.fanRec f).state = .spinup → (s.fanRec f).spinTimer = some e → s.now ≤ e → s.rlm.queue = [] →
      exec (.spinupExpiry f) s = .next (formAlert
        { (advanceTo e s).setFan f { s.fanRec f with state := .running, spinTimer := none } with
          rlm := s.rlm.setEntry (.fan f)
            (min (ceilDiv (ratedCurrent f * (s.fanRec f).applied) 1000) (s.rlm.fans.get f)) }))

/-! ### The warp link -/

/-- WARP_ACKNOWLEDGE and ACKNOWLEDGE_TIMEOUT (R106 to R110, R112): in POSTED an acknowledge puts the sent warp in effect,
produces a WARP notice, and sends the pending warp or leaves the link IDLE; elsewhere it is stray. The timer's expiry in
POSTED raises the stall counter and sends the pending warp or leaves the link STALLED; the warp in effect stays.
WARP_RESEND (R111) is BUSY while a warp is posted, STATE when none was computed since the reset, and else sends the last
computed warp again with its own number. That ACKNOWLEDGE_TIMEOUT does nothing outside POSTED, and that it moves the
clock, is the model's choice (log entry 2). -/
def Obligations.WarpLinkAnswersItsEvents : Prop :=
  ∀ s : State, LinkSettled s →
    (s.wrp.link ≠ .posted → exec .warpAcknowledge s =
      .next (formAlert { s with wrp := { s.wrp with stray := raiseCounter 1 s.wrp.stray } })) ∧
    (s.wrp.link ≠ .posted → exec .acknowledgeTimeout s = .next (formAlert s)) ∧
    (∀ w, s.wrp.link = .posted → s.wrp.sent = some w →
      ∃ t, exec .warpAcknowledge s = .next t ∧ t.wrp.inEffect = some w ∧ t.wrp.pending = none ∧
        (s.wrp.pending = none → t.wrp.link = .idle ∧ t.wrp.ackTimer = none ∧ t.wrp.sent = some w) ∧
        (∀ n, s.wrp.pending = some n →
          t.wrp.link = .posted ∧ t.wrp.sent = some n ∧ t.wrp.ackTimer = some (s.now + 120)) ∧
        NoticeSent (.warp w.seq w.bypass w.ceiling w.permille w.quad s.wrp.pending.isSome) s t ∧
        t = { s with wrp := t.wrp, lnk := t.lnk }) ∧
    (∀ e, s.wrp.link = .posted → s.wrp.ackTimer = some e → s.now ≤ e →
      ∃ t, exec .acknowledgeTimeout s = .next t ∧ t.now = e ∧ t.wrp.stall = raiseCounter 1 s.wrp.stall ∧
        t.wrp.inEffect = s.wrp.inEffect ∧ t.wrp.pending = none ∧
        (s.wrp.pending = none → t.wrp.link = .stalled ∧ t.wrp.ackTimer = none) ∧
        (∀ n, s.wrp.pending = some n → t.wrp.link = .posted ∧ t.wrp.sent = some n ∧ t.wrp.ackTimer = some (e + 120)) ∧
        t = { s with now := e, axc := t.axc, wrp := t.wrp, lnk := t.lnk }) ∧
    (∀ (p : Port) (tag : Byte), LinkReady p s →
    (s.wrp.link = .posted → exec (.warpResend p tag) s = .next (replied p tag .warpResend (refuse .busy) s)) ∧
    (s.wrp.link ≠ .posted → s.wrp.last = none →
      exec (.warpResend p tag) s = .next (replied p tag .warpResend (refuse .state) s)) ∧
    (∀ w, s.wrp.link ≠ .posted → s.wrp.last = some w →
      exec (.warpResend p tag) s = .next (replied p tag .warpResend okAnswer
        { s with wrp := { s.wrp with sent := some w, ackTimer := some (s.now + 120), link := .posted } })))
end

