-- ==== Sys2Proof/Laws/State.lean ====
section
/-! SUPPORT. The small lemmas of the state: what each shared update leaves unchanged, field by field, and what it writes
reads back. -/

namespace Sys2Proof.Machine
open Sys2Proof

/-! ### One record of several -/

@[simp] theorem get_set_axis {α : Type} (t : PerAxis α) (a : Axis) (x : α) : (t.set a x).get a = x := by
  cases a <;> rfl

theorem get_set_axis_of_ne {α : Type} (t : PerAxis α) {a b : Axis} (x : α) (h : b ≠ a) : (t.set a x).get b = t.get b := by
  cases a <;> cases b <;> first | rfl | exact absurd rfl h

@[simp] theorem get_set_chan {α : Type} (t : PerChan α) (c : Chan) (x : α) : (t.set c x).get c = x := by
  cases c <;> rfl

theorem get_set_chan_of_ne {α : Type} (t : PerChan α) {c d : Chan} (x : α) (h : d ≠ c) : (t.set c x).get d = t.get d := by
  cases c <;> cases d <;> first | rfl | exact absurd rfl h

@[simp] theorem get_set_fan {α : Type} (t : PerFan α) (f : Fan) (x : α) : (t.set f x).get f = x := by
  cases f <;> rfl

theorem get_set_fan_of_ne {α : Type} (t : PerFan α) {f g : Fan} (x : α) (h : g ≠ f) : (t.set f x).get g = t.get g := by
  cases f <;> cases g <;> first | rfl | exact absurd rfl h

@[simp] theorem get_all_axis {α : Type} (x : α) (a : Axis) : (PerAxis.all x).get a = x := by cases a <;> rfl

@[simp] theorem set_get_axis {α : Type} (t : PerAxis α) (a : Axis) : t.set a (t.get a) = t := by cases a <;> rfl

@[simp] theorem set_set_axis {α : Type} (t : PerAxis α) (a : Axis) (x y : α) : (t.set a x).set a y = t.set a y := by
  cases a <;> rfl

@[simp] theorem setAxis_axis (s : State) (a : Axis) : s.setAxis a (s.axis a) = s := by cases a <;> rfl

@[simp] theorem setAxis_setAxis (s : State) (a : Axis) (r r' : AxisRec) : (s.setAxis a r).setAxis a r' = s.setAxis a r' := by
  cases a <;> rfl

@[simp] theorem axis_setAxis (s : State) (a : Axis) (r : AxisRec) : (s.setAxis a r).axis a = r := get_set_axis _ _ _

theorem axis_setAxis_of_ne (s : State) {a b : Axis} (r : AxisRec) (h : b ≠ a) : (s.setAxis a r).axis b = s.axis b :=
  get_set_axis_of_ne _ _ h

@[simp] theorem chan_setChan (s : State) (c : Chan) (r : Channel) : (s.setChan c r).chan c = r := get_set_chan _ _ _

theorem chan_setChan_of_ne (s : State) {c d : Chan} (r : Channel) (h : d ≠ c) : (s.setChan c r).chan d = s.chan d :=
  get_set_chan_of_ne _ _ h

@[simp] theorem fanRec_setFan (s : State) (f : Fan) (r : FanRec) : (s.setFan f r).fanRec f = r := get_set_fan _ _ _

theorem fanRec_setFan_of_ne (s : State) {f g : Fan} (r : FanRec) (h : g ≠ f) : (s.setFan f r).fanRec g = s.fanRec g :=
  get_set_fan_of_ne _ _ h

@[simp] theorem port_setPort (s : State) (p : Port) (r : PortRec) : (s.setPort p r).port p = r := by cases p <;> rfl

theorem port_setPort_of_ne (s : State) {p q : Port} (r : PortRec) (h : q ≠ p) : (s.setPort p r).port q = s.port q := by
  cases p <;> cases q <;> first | rfl | exact absurd rfl h

@[simp] theorem setPort_port (s : State) (p : Port) : s.setPort p (s.port p) = s := by cases p <;> rfl

@[simp] theorem setPort_setPort (s : State) (p : Port) (r r' : PortRec) : (s.setPort p r).setPort p r' = s.setPort p r' := by
  cases p <;> rfl

/-! ### Frames of the shared updates -/

@[simp] theorem setAxis_now (s : State) (a : Axis) (r : AxisRec) : (s.setAxis a r).now = s.now := rfl
@[simp] theorem setAxis_drv (s : State) (a : Axis) (r : AxisRec) : (s.setAxis a r).drv = s.drv := rfl
@[simp] theorem setAxis_brk (s : State) (a : Axis) (r : AxisRec) : (s.setAxis a r).brk = s.brk := rfl
@[simp] theorem setAxis_rlm (s : State) (a : Axis) (r : AxisRec) : (s.setAxis a r).rlm = s.rlm := rfl
@[simp] theorem setAxis_lmm (s : State) (a : Axis) (r : AxisRec) : (s.setAxis a r).lmm = s.lmm := rfl
@[simp] theorem setAxis_geo (s : State) (a : Axis) (r : AxisRec) : (s.setAxis a r).geo = s.geo := rfl
@[simp] theorem setAxis_wrp (s : State) (a : Axis) (r : AxisRec) : (s.setAxis a r).wrp = s.wrp := rfl
@[simp] theorem setAxis_ssc (s : State) (a : Axis) (r : AxisRec) : (s.setAxis a r).ssc = s.ssc := rfl
@[simp] theorem setAxis_fan (s : State) (a : Axis) (r : AxisRec) : (s.setAxis a r).fan = s.fan := rfl
@[simp] theorem setAxis_ths (s : State) (a : Axis) (r : AxisRec) : (s.setAxis a r).ths = s.ths := rfl
@[simp] theorem setAxis_fcp (s : State) (a : Axis) (r : AxisRec) : (s.setAxis a r).fcp = s.fcp := rfl
@[simp] theorem setAxis_sto (s : State) (a : Axis) (r : AxisRec) : (s.setAxis a r).sto = s.sto := rfl
@[simp] theorem setAxis_lnk (s : State) (a : Axis) (r : AxisRec) : (s.setAxis a r).lnk = s.lnk := rfl
@[simp] theorem setAxis_start (s : State) (a : Axis) (r : AxisRec) : (s.setAxis a r).start = s.start := rfl
@[simp] theorem setAxis_refActive (s : State) (a : Axis) (r : AxisRec) : (s.setAxis a r).refActive = s.refActive := rfl
@[simp] theorem setAxis_draw (s : State) (a : Axis) (r : AxisRec) : (s.setAxis a r).draw = s.draw := rfl
@[simp] theorem setAxis_pending (s : State) (a : Axis) (r : AxisRec) : (s.setAxis a r).pending = s.pending := rfl
@[simp] theorem setAxis_chan (s : State) (a : Axis) (r : AxisRec) (d : Chan) : (s.setAxis a r).chan d = s.chan d := rfl
@[simp] theorem setAxis_port (s : State) (a : Axis) (r : AxisRec) (q : Port) : (s.setAxis a r).port q = s.port q := rfl
@[simp] theorem setAxis_fanRec (s : State) (a : Axis) (r : AxisRec) (g : Fan) : (s.setAxis a r).fanRec g = s.fanRec g := rfl

@[simp] theorem setChan_now (s : State) (c : Chan) (r : Channel) : (s.setChan c r).now = s.now := rfl
@[simp] theorem setChan_axc (s : State) (c : Chan) (r : Channel) : (s.setChan c r).axc = s.axc := rfl
@[simp] theorem setChan_brk (s : State) (c : Chan) (r : Channel) : (s.setChan c r).brk = s.brk := rfl
@[simp] theorem setChan_rlm (s : State) (c : Chan) (r : Channel) : (s.setChan c r).rlm = s.rlm := rfl
@[simp] theorem setChan_lmm (s : State) (c : Chan) (r : Channel) : (s.setChan c r).lmm = s.lmm := rfl
@[simp] theorem setChan_geo (s : State) (c : Chan) (r : Channel) : (s.setChan c r).geo = s.geo := rfl
@[simp] theorem setChan_wrp (s : State) (c : Chan) (r : Channel) : (s.setChan c r).wrp = s.wrp := rfl
@[simp] theorem setChan_ssc (s : State) (c : Chan) (r : Channel) : (s.setChan c r).ssc = s.ssc := rfl
@[simp] theorem setChan_fan (s : State) (c : Chan) (r : Channel) : (s.setChan c r).fan = s.fan := rfl
@[simp] theorem setChan_ths (s : State) (c : Chan) (r : Channel) : (s.setChan c r).ths = s.ths := rfl
@[simp] theorem setChan_fcp (s : State) (c : Chan) (r : Channel) : (s.setChan c r).fcp = s.fcp := rfl
@[simp] theorem setChan_sto (s : State) (c : Chan) (r : Channel) : (s.setChan c r).sto = s.sto := rfl
@[simp] theorem setChan_lnk (s : State) (c : Chan) (r : Channel) : (s.setChan c r).lnk = s.lnk := rfl
@[simp] theorem setChan_start (s : State) (c : Chan) (r : Channel) : (s.setChan c r).start = s.start := rfl
@[simp] theorem setChan_refActive (s : State) (c : Chan) (r : Channel) : (s.setChan c r).refActive = s.refActive := rfl
@[simp] theorem setChan_draw (s : State) (c : Chan) (r : Channel) : (s.setChan c r).draw = s.draw := rfl
@[simp] theorem setChan_pending (s : State) (c : Chan) (r : Channel) : (s.setChan c r).pending = s.pending := rfl
@[simp] theorem setChan_axis (s : State) (c : Chan) (r : Channel) (b : Axis) : (s.setChan c r).axis b = s.axis b := rfl
@[simp] theorem setChan_port (s : State) (c : Chan) (r : Channel) (q : Port) : (s.setChan c r).port q = s.port q := rfl
@[simp] theorem setChan_fanRec (s : State) (c : Chan) (r : Channel) (g : Fan) : (s.setChan c r).fanRec g = s.fanRec g := rfl

@[simp] theorem setPort_now (s : State) (p : Port) (r : PortRec) : (s.setPort p r).now = s.now := rfl
@[simp] theorem setPort_axc (s : State) (p : Port) (r : PortRec) : (s.setPort p r).axc = s.axc := rfl
@[simp] theorem setPort_drv (s : State) (p : Port) (r : PortRec) : (s.setPort p r).drv = s.drv := rfl
@[simp] theorem setPort_brk (s : State) (p : Port) (r : PortRec) : (s.setPort p r).brk = s.brk := rfl
@[simp] theorem setPort_rlm (s : State) (p : Port) (r : PortRec) : (s.setPort p r).rlm = s.rlm := rfl
@[simp] theorem setPort_lmm (s : State) (p : Port) (r : PortRec) : (s.setPort p r).lmm = s.lmm := rfl
@[simp] theorem setPort_geo (s : State) (p : Port) (r : PortRec) : (s.setPort p r).geo = s.geo := rfl
@[simp] theorem setPort_wrp (s : State) (p : Port) (r : PortRec) : (s.setPort p r).wrp = s.wrp := rfl
@[simp] theorem setPort_ssc (s : State) (p : Port) (r : PortRec) : (s.setPort p r).ssc = s.ssc := rfl
@[simp] theorem setPort_fan (s : State) (p : Port) (r : PortRec) : (s.setPort p r).fan = s.fan := rfl
@[simp] theorem setPort_ths (s : State) (p : Port) (r : PortRec) : (s.setPort p r).ths = s.ths := rfl
@[simp] theorem setPort_fcp (s : State) (p : Port) (r : PortRec) : (s.setPort p r).fcp = s.fcp := rfl
@[simp] theorem setPort_sto (s : State) (p : Port) (r : PortRec) : (s.setPort p r).sto = s.sto := rfl
@[simp] theorem setPort_start (s : State) (p : Port) (r : PortRec) : (s.setPort p r).start = s.start := rfl
@[simp] theorem setPort_refActive (s : State) (p : Port) (r : PortRec) : (s.setPort p r).refActive = s.refActive := rfl
@[simp] theorem setPort_draw (s : State) (p : Port) (r : PortRec) : (s.setPort p r).draw = s.draw := rfl
@[simp] theorem setPort_pending (s : State) (p : Port) (r : PortRec) : (s.setPort p r).pending = s.pending := rfl
@[simp] theorem setPort_axis (s : State) (p : Port) (r : PortRec) (b : Axis) : (s.setPort p r).axis b = s.axis b := rfl
@[simp] theorem setPort_chan (s : State) (p : Port) (r : PortRec) (d : Chan) : (s.setPort p r).chan d = s.chan d := rfl
@[simp] theorem setPort_fanRec (s : State) (p : Port) (r : PortRec) (g : Fan) : (s.setPort p r).fanRec g = s.fanRec g := rfl

@[simp] theorem setFan_now (s : State) (f : Fan) (r : FanRec) : (s.setFan f r).now = s.now := rfl
@[simp] theorem setFan_axc (s : State) (f : Fan) (r : FanRec) : (s.setFan f r).axc = s.axc := rfl
@[simp] theorem setFan_drv (s : State) (f : Fan) (r : FanRec) : (s.setFan f r).drv = s.drv := rfl
@[simp] theorem setFan_brk (s : State) (f : Fan) (r : FanRec) : (s.setFan f r).brk = s.brk := rfl
@[simp] theorem setFan_rlm (s : State) (f : Fan) (r : FanRec) : (s.setFan f r).rlm = s.rlm := rfl
@[simp] theorem setFan_lmm (s : State) (f : Fan) (r : FanRec) : (s.setFan f r).lmm = s.lmm := rfl
@[simp] theorem setFan_geo (s : State) (f : Fan) (r : FanRec) : (s.setFan f r).geo = s.geo := rfl
@[simp] theorem setFan_wrp (s : State) (f : Fan) (r : FanRec) : (s.setFan f r).wrp = s.wrp := rfl
@[simp] theorem setFan_ssc (s : State) (f : Fan) (r : FanRec) : (s.setFan f r).ssc = s.ssc := rfl
@[simp] theorem setFan_ths (s : State) (f : Fan) (r : FanRec) : (s.setFan f r).ths = s.ths := rfl
@[simp] theorem setFan_fcp (s : State) (f : Fan) (r : FanRec) : (s.setFan f r).fcp = s.fcp := rfl
@[simp] theorem setFan_sto (s : State) (f : Fan) (r : FanRec) : (s.setFan f r).sto = s.sto := rfl
@[simp] theorem setFan_lnk (s : State) (f : Fan) (r : FanRec) : (s.setFan f r).lnk = s.lnk := rfl
@[simp] theorem setFan_start (s : State) (f : Fan) (r : FanRec) : (s.setFan f r).start = s.start := rfl
@[simp] theorem setFan_refActive (s : State) (f : Fan) (r : FanRec) : (s.setFan f r).refActive = s.refActive := rfl
@[simp] theorem setFan_draw (s : State) (f : Fan) (r : FanRec) : (s.setFan f r).draw = s.draw := rfl
@[simp] theorem setFan_pending (s : State) (f : Fan) (r : FanRec) : (s.setFan f r).pending = s.pending := rfl
@[simp] theorem setFan_axis (s : State) (f : Fan) (r : FanRec) (b : Axis) : (s.setFan f r).axis b = s.axis b := rfl
@[simp] theorem setFan_chan (s : State) (f : Fan) (r : FanRec) (d : Chan) : (s.setFan f r).chan d = s.chan d := rfl
@[simp] theorem setFan_port (s : State) (f : Fan) (r : FanRec) (q : Port) : (s.setFan f r).port q = s.port q := rfl

@[simp] theorem produce_now (n : Notice) (s : State) : (produce n s).now = s.now := rfl
@[simp] theorem produce_axc (n : Notice) (s : State) : (produce n s).axc = s.axc := rfl
@[simp] theorem produce_drv (n : Notice) (s : State) : (produce n s).drv = s.drv := rfl
@[simp] theorem produce_brk (n : Notice) (s : State) : (produce n s).brk = s.brk := rfl
@[simp] theorem produce_rlm (n : Notice) (s : State) : (produce n s).rlm = s.rlm := rfl
@[simp] theorem produce_lmm (n : Notice) (s : State) : (produce n s).lmm = s.lmm := rfl
@[simp] theorem produce_geo (n : Notice) (s : State) : (produce n s).geo = s.geo := rfl
@[simp] theorem produce_wrp (n : Notice) (s : State) : (produce n s).wrp = s.wrp := rfl
@[simp] theorem produce_ssc (n : Notice) (s : State) : (produce n s).ssc = s.ssc := rfl
@[simp] theorem produce_fan (n : Notice) (s : State) : (produce n s).fan = s.fan := rfl
@[simp] theorem produce_ths (n : Notice) (s : State) : (produce n s).ths = s.ths := rfl
@[simp] theorem produce_fcp (n : Notice) (s : State) : (produce n s).fcp = s.fcp := rfl
@[simp] theorem produce_sto (n : Notice) (s : State) : (produce n s).sto = s.sto := rfl
@[simp] theorem produce_start (n : Notice) (s : State) : (produce n s).start = s.start := rfl
@[simp] theorem produce_refActive (n : Notice) (s : State) : (produce n s).refActive = s.refActive := rfl
@[simp] theorem produce_draw (n : Notice) (s : State) : (produce n s).draw = s.draw := rfl
@[simp] theorem produce_pending (n : Notice) (s : State) : (produce n s).pending = s.pending := rfl
@[simp] theorem produce_axis (n : Notice) (s : State) (b : Axis) : (produce n s).axis b = s.axis b := rfl
@[simp] theorem produce_chan (n : Notice) (s : State) (d : Chan) : (produce n s).chan d = s.chan d := rfl
@[simp] theorem produce_fanRec (n : Notice) (s : State) (g : Fan) : (produce n s).fanRec g = s.fanRec g := rfl

@[simp] theorem formAlert_now (s : State) : (formAlert s).now = s.now := rfl
@[simp] theorem formAlert_axc (s : State) : (formAlert s).axc = s.axc := rfl
@[simp] theorem formAlert_drv (s : State) : (formAlert s).drv = s.drv := rfl
@[simp] theorem formAlert_brk (s : State) : (formAlert s).brk = s.brk := rfl
@[simp] theorem formAlert_rlm (s : State) : (formAlert s).rlm = s.rlm := rfl
@[simp] theorem formAlert_lmm (s : State) : (formAlert s).lmm = s.lmm := rfl
@[simp] theorem formAlert_geo (s : State) : (formAlert s).geo = s.geo := rfl
@[simp] theorem formAlert_wrp (s : State) : (formAlert s).wrp = s.wrp := rfl
@[simp] theorem formAlert_ssc (s : State) : (formAlert s).ssc = s.ssc := rfl
@[simp] theorem formAlert_fan (s : State) : (formAlert s).fan = s.fan := rfl
@[simp] theorem formAlert_ths (s : State) : (formAlert s).ths = s.ths := rfl
@[simp] theorem formAlert_fcp (s : State) : (formAlert s).fcp = s.fcp := rfl
@[simp] theorem formAlert_sto (s : State) : (formAlert s).sto = s.sto := rfl
@[simp] theorem formAlert_start (s : State) : (formAlert s).start = s.start := rfl
@[simp] theorem formAlert_refActive (s : State) : (formAlert s).refActive = s.refActive := rfl
@[simp] theorem formAlert_draw (s : State) : (formAlert s).draw = s.draw := rfl
@[simp] theorem formAlert_pending (s : State) : (formAlert s).pending = s.pending := rfl
@[simp] theorem formAlert_axis (s : State) (b : Axis) : (formAlert s).axis b = s.axis b := rfl
@[simp] theorem formAlert_chan (s : State) (d : Chan) : (formAlert s).chan d = s.chan d := rfl
@[simp] theorem formAlert_fanRec (s : State) (g : Fan) : (formAlert s).fanRec g = s.fanRec g := rfl

@[simp] theorem lowerEntry_now (c : Consumer) (v : Nat) (s : State) : (lowerEntry c v s).now = s.now := rfl
@[simp] theorem lowerEntry_axc (c : Consumer) (v : Nat) (s : State) : (lowerEntry c v s).axc = s.axc := rfl
@[simp] theorem lowerEntry_drv (c : Consumer) (v : Nat) (s : State) : (lowerEntry c v s).drv = s.drv := rfl
@[simp] theorem lowerEntry_brk (c : Consumer) (v : Nat) (s : State) : (lowerEntry c v s).brk = s.brk := rfl
@[simp] theorem lowerEntry_lmm (c : Consumer) (v : Nat) (s : State) : (lowerEntry c v s).lmm = s.lmm := rfl
@[simp] theorem lowerEntry_geo (c : Consumer) (v : Nat) (s : State) : (lowerEntry c v s).geo = s.geo := rfl
@[simp] theorem lowerEntry_wrp (c : Consumer) (v : Nat) (s : State) : (lowerEntry c v s).wrp = s.wrp := rfl
@[simp] theorem lowerEntry_ssc (c : Consumer) (v : Nat) (s : State) : (lowerEntry c v s).ssc = s.ssc := rfl
@[simp] theorem lowerEntry_fan (c : Consumer) (v : Nat) (s : State) : (lowerEntry c v s).fan = s.fan := rfl
@[simp] theorem lowerEntry_ths (c : Consumer) (v : Nat) (s : State) : (lowerEntry c v s).ths = s.ths := rfl
@[simp] theorem lowerEntry_fcp (c : Consumer) (v : Nat) (s : State) : (lowerEntry c v s).fcp = s.fcp := rfl
@[simp] theorem lowerEntry_sto (c : Consumer) (v : Nat) (s : State) : (lowerEntry c v s).sto = s.sto := rfl
@[simp] theorem lowerEntry_lnk (c : Consumer) (v : Nat) (s : State) : (lowerEntry c v s).lnk = s.lnk := rfl
@[simp] theorem lowerEntry_start (c : Consumer) (v : Nat) (s : State) : (lowerEntry c v s).start = s.start := rfl
@[simp] theorem lowerEntry_refActive (c : Consumer) (v : Nat) (s : State) : (lowerEntry c v s).refActive = s.refActive := rfl
@[simp] theorem lowerEntry_draw (c : Consumer) (v : Nat) (s : State) : (lowerEntry c v s).draw = s.draw := rfl
@[simp] theorem lowerEntry_pending (c : Consumer) (v : Nat) (s : State) : (lowerEntry c v s).pending = s.pending := rfl
@[simp] theorem lowerEntry_axis (c : Consumer) (v : Nat) (s : State) (b : Axis) : (lowerEntry c v s).axis b = s.axis b := rfl
@[simp] theorem lowerEntry_chan (c : Consumer) (v : Nat) (s : State) (d : Chan) : (lowerEntry c v s).chan d = s.chan d := rfl
@[simp] theorem lowerEntry_port (c : Consumer) (v : Nat) (s : State) (q : Port) : (lowerEntry c v s).port q = s.port q := rfl
@[simp] theorem lowerEntry_fanRec (c : Consumer) (v : Nat) (s : State) (g : Fan) : (lowerEntry c v s).fanRec g = s.fanRec g := rfl

@[simp] theorem withdrawReq_now (c : Consumer) (s : State) : (withdrawReq c s).now = s.now := rfl
@[simp] theorem withdrawReq_axc (c : Consumer) (s : State) : (withdrawReq c s).axc = s.axc := rfl
@[simp] theorem withdrawReq_drv (c : Consumer) (s : State) : (withdrawReq c s).drv = s.drv := rfl
@[simp] theorem withdrawReq_brk (c : Consumer) (s : State) : (withdrawReq c s).brk = s.brk := rfl
@[simp] theorem withdrawReq_lmm (c : Consumer) (s : State) : (withdrawReq c s).lmm = s.lmm := rfl
@[simp] theorem withdrawReq_geo (c : Consumer) (s : State) : (withdrawReq c s).geo = s.geo := rfl
@[simp] theorem withdrawReq_wrp (c : Consumer) (s : State) : (withdrawReq c s).wrp = s.wrp := rfl
@[simp] theorem withdrawReq_ssc (c : Consumer) (s : State) : (withdrawReq c s).ssc = s.ssc := rfl
@[simp] theorem withdrawReq_fan (c : Consumer) (s : State) : (withdrawReq c s).fan = s.fan := rfl
@[simp] theorem withdrawReq_ths (c : Consumer) (s : State) : (withdrawReq c s).ths = s.ths := rfl
@[simp] theorem withdrawReq_fcp (c : Consumer) (s : State) : (withdrawReq c s).fcp = s.fcp := rfl
@[simp] theorem withdrawReq_sto (c : Consumer) (s : State) : (withdrawReq c s).sto = s.sto := rfl
@[simp] theorem withdrawReq_lnk (c : Consumer) (s : State) : (withdrawReq c s).lnk = s.lnk := rfl
@[simp] theorem withdrawReq_start (c : Consumer) (s : State) : (withdrawReq c s).start = s.start := rfl
@[simp] theorem withdrawReq_refActive (c : Consumer) (s : State) : (withdrawReq c s).refActive = s.refActive := rfl
@[simp] theorem withdrawReq_draw (c : Consumer) (s : State) : (withdrawReq c s).draw = s.draw := rfl
@[simp] theorem withdrawReq_pending (c : Consumer) (s : State) : (withdrawReq c s).pending = s.pending := rfl
@[simp] theorem withdrawReq_axis (c : Consumer) (s : State) (b : Axis) : (withdrawReq c s).axis b = s.axis b := rfl
@[simp] theorem withdrawReq_chan (c : Consumer) (s : State) (d : Chan) : (withdrawReq c s).chan d = s.chan d := rfl
@[simp] theorem withdrawReq_port (c : Consumer) (s : State) (q : Port) : (withdrawReq c s).port q = s.port q := rfl
@[simp] theorem withdrawReq_fanRec (c : Consumer) (s : State) (g : Fan) : (withdrawReq c s).fanRec g = s.fanRec g := rfl

@[simp] theorem driveChan_now (c : Chan) (l : Option Nat) (s : State) : (driveChan c l s).now = s.now := rfl
@[simp] theorem driveChan_axc (c : Chan) (l : Option Nat) (s : State) : (driveChan c l s).axc = s.axc := rfl
@[simp] theorem driveChan_brk (c : Chan) (l : Option Nat) (s : State) : (driveChan c l s).brk = s.brk := rfl
@[simp] theorem driveChan_rlm (c : Chan) (l : Option Nat) (s : State) : (driveChan c l s).rlm = s.rlm := rfl
@[simp] theorem driveChan_lmm (c : Chan) (l : Option Nat) (s : State) : (driveChan c l s).lmm = s.lmm := rfl
@[simp] theorem driveChan_geo (c : Chan) (l : Option Nat) (s : State) : (driveChan c l s).geo = s.geo := rfl
@[simp] theorem driveChan_wrp (c : Chan) (l : Option Nat) (s : State) : (driveChan c l s).wrp = s.wrp := rfl
@[simp] theorem driveChan_ssc (c : Chan) (l : Option Nat) (s : State) : (driveChan c l s).ssc = s.ssc := rfl
@[simp] theorem driveChan_fan (c : Chan) (l : Option Nat) (s : State) : (driveChan c l s).fan = s.fan := rfl
@[simp] theorem driveChan_ths (c : Chan) (l : Option Nat) (s : State) : (driveChan c l s).ths = s.ths := rfl
@[simp] theorem driveChan_fcp (c : Chan) (l : Option Nat) (s : State) : (driveChan c l s).fcp = s.fcp := rfl
@[simp] theorem driveChan_sto (c : Chan) (l : Option Nat) (s : State) : (driveChan c l s).sto = s.sto := rfl
@[simp] theorem driveChan_lnk (c : Chan) (l : Option Nat) (s : State) : (driveChan c l s).lnk = s.lnk := rfl
@[simp] theorem driveChan_start (c : Chan) (l : Option Nat) (s : State) : (driveChan c l s).start = s.start := rfl
@[simp] theorem driveChan_refActive (c : Chan) (l : Option Nat) (s : State) : (driveChan c l s).refActive = s.refActive := rfl
@[simp] theorem driveChan_draw (c : Chan) (l : Option Nat) (s : State) : (driveChan c l s).draw = s.draw := rfl
@[simp] theorem driveChan_pending (c : Chan) (l : Option Nat) (s : State) : (driveChan c l s).pending = s.pending := rfl
@[simp] theorem driveChan_axis (c : Chan) (l : Option Nat) (s : State) (b : Axis) : (driveChan c l s).axis b = s.axis b := rfl
@[simp] theorem driveChan_port (c : Chan) (l : Option Nat) (s : State) (q : Port) : (driveChan c l s).port q = s.port q := rfl
@[simp] theorem driveChan_fanRec (c : Chan) (l : Option Nat) (s : State) (g : Fan) : (driveChan c l s).fanRec g = s.fanRec g := rfl

@[simp] theorem driveAxis_now (a : Axis) (l : Option Nat) (s : State) : (driveAxis a l s).now = s.now := rfl
@[simp] theorem driveAxis_axc (a : Axis) (l : Option Nat) (s : State) : (driveAxis a l s).axc = s.axc := rfl
@[simp] theorem driveAxis_brk (a : Axis) (l : Option Nat) (s : State) : (driveAxis a l s).brk = s.brk := rfl
@[simp] theorem driveAxis_rlm (a : Axis) (l : Option Nat) (s : State) : (driveAxis a l s).rlm = s.rlm := rfl
@[simp] theorem driveAxis_lmm (a : Axis) (l : Option Nat) (s : State) : (driveAxis a l s).lmm = s.lmm := rfl
@[simp] theorem driveAxis_geo (a : Axis) (l : Option Nat) (s : State) : (driveAxis a l s).geo = s.geo := rfl
@[simp] theorem driveAxis_wrp (a : Axis) (l : Option Nat) (s : State) : (driveAxis a l s).wrp = s.wrp := rfl
@[simp] theorem driveAxis_ssc (a : Axis) (l : Option Nat) (s : State) : (driveAxis a l s).ssc = s.ssc := rfl
@[simp] theorem driveAxis_fan (a : Axis) (l : Option Nat) (s : State) : (driveAxis a l s).fan = s.fan := rfl
@[simp] theorem driveAxis_ths (a : Axis) (l : Option Nat) (s : State) : (driveAxis a l s).ths = s.ths := rfl
@[simp] theorem driveAxis_fcp (a : Axis) (l : Option Nat) (s : State) : (driveAxis a l s).fcp = s.fcp := rfl
@[simp] theorem driveAxis_sto (a : Axis) (l : Option Nat) (s : State) : (driveAxis a l s).sto = s.sto := rfl
@[simp] theorem driveAxis_lnk (a : Axis) (l : Option Nat) (s : State) : (driveAxis a l s).lnk = s.lnk := rfl
@[simp] theorem driveAxis_start (a : Axis) (l : Option Nat) (s : State) : (driveAxis a l s).start = s.start := rfl
@[simp] theorem driveAxis_refActive (a : Axis) (l : Option Nat) (s : State) : (driveAxis a l s).refActive = s.refActive := rfl
@[simp] theorem driveAxis_draw (a : Axis) (l : Option Nat) (s : State) : (driveAxis a l s).draw = s.draw := rfl
@[simp] theorem driveAxis_pending (a : Axis) (l : Option Nat) (s : State) : (driveAxis a l s).pending = s.pending := rfl
@[simp] theorem driveAxis_axis (a : Axis) (l : Option Nat) (s : State) (b : Axis) : (driveAxis a l s).axis b = s.axis b := rfl
@[simp] theorem driveAxis_port (a : Axis) (l : Option Nat) (s : State) (q : Port) : (driveAxis a l s).port q = s.port q := rfl
@[simp] theorem driveAxis_fanRec (a : Axis) (l : Option Nat) (s : State) (g : Fan) : (driveAxis a l s).fanRec g = s.fanRec g := rfl

@[simp] theorem driveRun_now (a : Axis) (s : State) : (driveRun a s).now = s.now := rfl
@[simp] theorem driveRun_axc (a : Axis) (s : State) : (driveRun a s).axc = s.axc := rfl
@[simp] theorem driveRun_brk (a : Axis) (s : State) : (driveRun a s).brk = s.brk := rfl
@[simp] theorem driveRun_rlm (a : Axis) (s : State) : (driveRun a s).rlm = s.rlm := rfl
@[simp] theorem driveRun_lmm (a : Axis) (s : State) : (driveRun a s).lmm = s.lmm := rfl
@[simp] theorem driveRun_geo (a : Axis) (s : State) : (driveRun a s).geo = s.geo := rfl
@[simp] theorem driveRun_wrp (a : Axis) (s : State) : (driveRun a s).wrp = s.wrp := rfl
@[simp] theorem driveRun_ssc (a : Axis) (s : State) : (driveRun a s).ssc = s.ssc := rfl
@[simp] theorem driveRun_fan (a : Axis) (s : State) : (driveRun a s).fan = s.fan := rfl
@[simp] theorem driveRun_ths (a : Axis) (s : State) : (driveRun a s).ths = s.ths := rfl
@[simp] theorem driveRun_fcp (a : Axis) (s : State) : (driveRun a s).fcp = s.fcp := rfl
@[simp] theorem driveRun_sto (a : Axis) (s : State) : (driveRun a s).sto = s.sto := rfl
@[simp] theorem driveRun_lnk (a : Axis) (s : State) : (driveRun a s).lnk = s.lnk := rfl
@[simp] theorem driveRun_start (a : Axis) (s : State) : (driveRun a s).start = s.start := rfl
@[simp] theorem driveRun_refActive (a : Axis) (s : State) : (driveRun a s).refActive = s.refActive := rfl
@[simp] theorem driveRun_draw (a : Axis) (s : State) : (driveRun a s).draw = s.draw := rfl
@[simp] theorem driveRun_pending (a : Axis) (s : State) : (driveRun a s).pending = s.pending := rfl
@[simp] theorem driveRun_axis (a : Axis) (s : State) (b : Axis) : (driveRun a s).axis b = s.axis b := rfl
@[simp] theorem driveRun_port (a : Axis) (s : State) (q : Port) : (driveRun a s).port q = s.port q := rfl
@[simp] theorem driveRun_fanRec (a : Axis) (s : State) (g : Fan) : (driveRun a s).fanRec g = s.fanRec g := rfl

@[simp] theorem driveHold_now (a : Axis) (s : State) : (driveHold a s).now = s.now := rfl
@[simp] theorem driveHold_axc (a : Axis) (s : State) : (driveHold a s).axc = s.axc := rfl
@[simp] theorem driveHold_brk (a : Axis) (s : State) : (driveHold a s).brk = s.brk := rfl
@[simp] theorem driveHold_rlm (a : Axis) (s : State) : (driveHold a s).rlm = s.rlm := rfl
@[simp] theorem driveHold_lmm (a : Axis) (s : State) : (driveHold a s).lmm = s.lmm := rfl
@[simp] theorem driveHold_geo (a : Axis) (s : State) : (driveHold a s).geo = s.geo := rfl
@[simp] theorem driveHold_wrp (a : Axis) (s : State) : (driveHold a s).wrp = s.wrp := rfl
@[simp] theorem driveHold_ssc (a : Axis) (s : State) : (driveHold a s).ssc = s.ssc := rfl
@[simp] theorem driveHold_fan (a : Axis) (s : State) : (driveHold a s).fan = s.fan := rfl
@[simp] theorem driveHold_ths (a : Axis) (s : State) : (driveHold a s).ths = s.ths := rfl
@[simp] theorem driveHold_fcp (a : Axis) (s : State) : (driveHold a s).fcp = s.fcp := rfl
@[simp] theorem driveHold_sto (a : Axis) (s : State) : (driveHold a s).sto = s.sto := rfl
@[simp] theorem driveHold_lnk (a : Axis) (s : State) : (driveHold a s).lnk = s.lnk := rfl
@[simp] theorem driveHold_start (a : Axis) (s : State) : (driveHold a s).start = s.start := rfl
@[simp] theorem driveHold_refActive (a : Axis) (s : State) : (driveHold a s).refActive = s.refActive := rfl
@[simp] theorem driveHold_draw (a : Axis) (s : State) : (driveHold a s).draw = s.draw := rfl
@[simp] theorem driveHold_pending (a : Axis) (s : State) : (driveHold a s).pending = s.pending := rfl
@[simp] theorem driveHold_axis (a : Axis) (s : State) (b : Axis) : (driveHold a s).axis b = s.axis b := rfl
@[simp] theorem driveHold_port (a : Axis) (s : State) (q : Port) : (driveHold a s).port q = s.port q := rfl
@[simp] theorem driveHold_fanRec (a : Axis) (s : State) (g : Fan) : (driveHold a s).fanRec g = s.fanRec g := rfl

@[simp] theorem latchChan_now (c : Chan) (l : Latch) (s : State) : (latchChan c l s).now = s.now := rfl
@[simp] theorem latchChan_axc (c : Chan) (l : Latch) (s : State) : (latchChan c l s).axc = s.axc := rfl
@[simp] theorem latchChan_brk (c : Chan) (l : Latch) (s : State) : (latchChan c l s).brk = s.brk := rfl
@[simp] theorem latchChan_rlm (c : Chan) (l : Latch) (s : State) : (latchChan c l s).rlm = s.rlm := rfl
@[simp] theorem latchChan_lmm (c : Chan) (l : Latch) (s : State) : (latchChan c l s).lmm = s.lmm := rfl
@[simp] theorem latchChan_geo (c : Chan) (l : Latch) (s : State) : (latchChan c l s).geo = s.geo := rfl
@[simp] theorem latchChan_wrp (c : Chan) (l : Latch) (s : State) : (latchChan c l s).wrp = s.wrp := rfl
@[simp] theorem latchChan_ssc (c : Chan) (l : Latch) (s : State) : (latchChan c l s).ssc = s.ssc := rfl
@[simp] theorem latchChan_fan (c : Chan) (l : Latch) (s : State) : (latchChan c l s).fan = s.fan := rfl
@[simp] theorem latchChan_ths (c : Chan) (l : Latch) (s : State) : (latchChan c l s).ths = s.ths := rfl
@[simp] theorem latchChan_fcp (c : Chan) (l : Latch) (s : State) : (latchChan c l s).fcp = s.fcp := rfl
@[simp] theorem latchChan_sto (c : Chan) (l : Latch) (s : State) : (latchChan c l s).sto = s.sto := rfl
@[simp] theorem latchChan_start (c : Chan) (l : Latch) (s : State) : (latchChan c l s).start = s.start := rfl
@[simp] theorem latchChan_refActive (c : Chan) (l : Latch) (s : State) : (latchChan c l s).refActive = s.refActive := rfl
@[simp] theorem latchChan_draw (c : Chan) (l : Latch) (s : State) : (latchChan c l s).draw = s.draw := rfl
@[simp] theorem latchChan_pending (c : Chan) (l : Latch) (s : State) : (latchChan c l s).pending = s.pending := rfl
@[simp] theorem latchChan_axis (c : Chan) (l : Latch) (s : State) (b : Axis) : (latchChan c l s).axis b = s.axis b := rfl
@[simp] theorem latchChan_fanRec (c : Chan) (l : Latch) (s : State) (g : Fan) : (latchChan c l s).fanRec g = s.fanRec g := rfl

@[simp] theorem advanceTo_drv (t : Nat) (s : State) : (advanceTo t s).drv = s.drv := by unfold advanceTo; split <;> rfl
@[simp] theorem advanceTo_brk (t : Nat) (s : State) : (advanceTo t s).brk = s.brk := by unfold advanceTo; split <;> rfl
@[simp] theorem advanceTo_rlm (t : Nat) (s : State) : (advanceTo t s).rlm = s.rlm := by unfold advanceTo; split <;> rfl
@[simp] theorem advanceTo_lmm (t : Nat) (s : State) : (advanceTo t s).lmm = s.lmm := by unfold advanceTo; split <;> rfl
@[simp] theorem advanceTo_geo (t : Nat) (s : State) : (advanceTo t s).geo = s.geo := by unfold advanceTo; split <;> rfl
@[simp] theorem advanceTo_wrp (t : Nat) (s : State) : (advanceTo t s).wrp = s.wrp := by unfold advanceTo; split <;> rfl
@[simp] theorem advanceTo_ssc (t : Nat) (s : State) : (advanceTo t s).ssc = s.ssc := by unfold advanceTo; split <;> rfl
@[simp] theorem advanceTo_fan (t : Nat) (s : State) : (advanceTo t s).fan = s.fan := by unfold advanceTo; split <;> rfl
@[simp] theorem advanceTo_ths (t : Nat) (s : State) : (advanceTo t s).ths = s.ths := by unfold advanceTo; split <;> rfl
@[simp] theorem advanceTo_fcp (t : Nat) (s : State) : (advanceTo t s).fcp = s.fcp := by unfold advanceTo; split <;> rfl
@[simp] theorem advanceTo_sto (t : Nat) (s : State) : (advanceTo t s).sto = s.sto := by unfold advanceTo; split <;> rfl
@[simp] theorem advanceTo_lnk (t : Nat) (s : State) : (advanceTo t s).lnk = s.lnk := by unfold advanceTo; split <;> rfl
@[simp] theorem advanceTo_start (t : Nat) (s : State) : (advanceTo t s).start = s.start := by unfold advanceTo; split <;> rfl
@[simp] theorem advanceTo_refActive (t : Nat) (s : State) : (advanceTo t s).refActive = s.refActive := by unfold advanceTo; split <;> rfl
@[simp] theorem advanceTo_draw (t : Nat) (s : State) : (advanceTo t s).draw = s.draw := by unfold advanceTo; split <;> rfl
@[simp] theorem advanceTo_pending (t : Nat) (s : State) : (advanceTo t s).pending = s.pending := by unfold advanceTo; split <;> rfl
@[simp] theorem advanceTo_chan (t : Nat) (s : State) (d : Chan) : (advanceTo t s).chan d = s.chan d := by simp only [State.chan, advanceTo_drv]
@[simp] theorem advanceTo_port (t : Nat) (s : State) (q : Port) : (advanceTo t s).port q = s.port q := by simp only [State.port, advanceTo_lnk]
@[simp] theorem advanceTo_fanRec (t : Nat) (s : State) (g : Fan) : (advanceTo t s).fanRec g = s.fanRec g := by simp only [State.fanRec, advanceTo_fan]

@[simp] theorem handIfChanged_now (s : State) : (handIfChanged s).now = s.now := by unfold handIfChanged; dsimp only; split <;> rfl
@[simp] theorem handIfChanged_axc (s : State) : (handIfChanged s).axc = s.axc := by unfold handIfChanged; dsimp only; split <;> rfl
@[simp] theorem handIfChanged_drv (s : State) : (handIfChanged s).drv = s.drv := by unfold handIfChanged; dsimp only; split <;> rfl
@[simp] theorem handIfChanged_brk (s : State) : (handIfChanged s).brk = s.brk := by unfold handIfChanged; dsimp only; split <;> rfl
@[simp] theorem handIfChanged_rlm (s : State) : (handIfChanged s).rlm = s.rlm := by unfold handIfChanged; dsimp only; split <;> rfl
@[simp] theorem handIfChanged_lmm (s : State) : (handIfChanged s).lmm = s.lmm := by unfold handIfChanged; dsimp only; split <;> rfl
@[simp] theorem handIfChanged_ssc (s : State) : (handIfChanged s).ssc = s.ssc := by unfold handIfChanged; dsimp only; split <;> rfl
@[simp] theorem handIfChanged_fan (s : State) : (handIfChanged s).fan = s.fan := by unfold handIfChanged; dsimp only; split <;> rfl
@[simp] theorem handIfChanged_ths (s : State) : (handIfChanged s).ths = s.ths := by unfold handIfChanged; dsimp only; split <;> rfl
@[simp] theorem handIfChanged_fcp (s : State) : (handIfChanged s).fcp = s.fcp := by unfold handIfChanged; dsimp only; split <;> rfl
@[simp] theorem handIfChanged_sto (s : State) : (handIfChanged s).sto = s.sto := by unfold handIfChanged; dsimp only; split <;> rfl
@[simp] theorem handIfChanged_lnk (s : State) : (handIfChanged s).lnk = s.lnk := by unfold handIfChanged; dsimp only; split <;> rfl
@[simp] theorem handIfChanged_start (s : State) : (handIfChanged s).start = s.start := by unfold handIfChanged; dsimp only; split <;> rfl
@[simp] theorem handIfChanged_refActive (s : State) : (handIfChanged s).refActive = s.refActive := by unfold handIfChanged; dsimp only; split <;> rfl
@[simp] theorem handIfChanged_draw (s : State) : (handIfChanged s).draw = s.draw := by unfold handIfChanged; dsimp only; split <;> rfl
@[simp] theorem handIfChanged_pending (s : State) : (handIfChanged s).pending = s.pending := by unfold handIfChanged; dsimp only; split <;> rfl
@[simp] theorem handIfChanged_axis (s : State) (b : Axis) : (handIfChanged s).axis b = s.axis b := by simp only [State.axis, handIfChanged_axc]
@[simp] theorem handIfChanged_chan (s : State) (d : Chan) : (handIfChanged s).chan d = s.chan d := by simp only [State.chan, handIfChanged_drv]
@[simp] theorem handIfChanged_port (s : State) (q : Port) : (handIfChanged s).port q = s.port q := by simp only [State.port, handIfChanged_lnk]
@[simp] theorem handIfChanged_fanRec (s : State) (g : Fan) : (handIfChanged s).fanRec g = s.fanRec g := by simp only [State.fanRec, handIfChanged_fan]

@[simp] theorem formOrientation_now (s : State) : (formOrientation s).now = s.now := rfl
@[simp] theorem formOrientation_axc (s : State) : (formOrientation s).axc = s.axc := rfl
@[simp] theorem formOrientation_drv (s : State) : (formOrientation s).drv = s.drv := rfl
@[simp] theorem formOrientation_brk (s : State) : (formOrientation s).brk = s.brk := rfl
@[simp] theorem formOrientation_rlm (s : State) : (formOrientation s).rlm = s.rlm := rfl
@[simp] theorem formOrientation_lmm (s : State) : (formOrientation s).lmm = s.lmm := rfl
@[simp] theorem formOrientation_wrp (s : State) : (formOrientation s).wrp = s.wrp := rfl
@[simp] theorem formOrientation_fan (s : State) : (formOrientation s).fan = s.fan := rfl
@[simp] theorem formOrientation_ths (s : State) : (formOrientation s).ths = s.ths := rfl
@[simp] theorem formOrientation_fcp (s : State) : (formOrientation s).fcp = s.fcp := rfl
@[simp] theorem formOrientation_sto (s : State) : (formOrientation s).sto = s.sto := rfl
@[simp] theorem formOrientation_lnk (s : State) : (formOrientation s).lnk = s.lnk := rfl
@[simp] theorem formOrientation_start (s : State) : (formOrientation s).start = s.start := rfl
@[simp] theorem formOrientation_refActive (s : State) : (formOrientation s).refActive = s.refActive := rfl
@[simp] theorem formOrientation_draw (s : State) : (formOrientation s).draw = s.draw := rfl
@[simp] theorem formOrientation_pending (s : State) : (formOrientation s).pending = s.pending := rfl
@[simp] theorem formOrientation_axis (s : State) (b : Axis) : (formOrientation s).axis b = s.axis b := rfl
@[simp] theorem formOrientation_chan (s : State) (d : Chan) : (formOrientation s).chan d = s.chan d := rfl
@[simp] theorem formOrientation_port (s : State) (q : Port) : (formOrientation s).port q = s.port q := rfl
@[simp] theorem formOrientation_fanRec (s : State) (g : Fan) : (formOrientation s).fanRec g = s.fanRec g := rfl

@[simp] theorem formOffset_now (s : State) : (formOffset s).now = s.now := by unfold formOffset; split <;> rfl
@[simp] theorem formOffset_axc (s : State) : (formOffset s).axc = s.axc := by unfold formOffset; split <;> rfl
@[simp] theorem formOffset_drv (s : State) : (formOffset s).drv = s.drv := by unfold formOffset; split <;> rfl
@[simp] theorem formOffset_brk (s : State) : (formOffset s).brk = s.brk := by unfold formOffset; split <;> rfl
@[simp] theorem formOffset_rlm (s : State) : (formOffset s).rlm = s.rlm := by unfold formOffset; split <;> rfl
@[simp] theorem formOffset_lmm (s : State) : (formOffset s).lmm = s.lmm := by unfold formOffset; split <;> rfl
@[simp] theorem formOffset_geo (s : State) : (formOffset s).geo = s.geo := by unfold formOffset; split <;> rfl
@[simp] theorem formOffset_wrp (s : State) : (formOffset s).wrp = s.wrp := by unfold formOffset; split <;> rfl
@[simp] theorem formOffset_ssc (s : State) : (formOffset s).ssc = s.ssc := by unfold formOffset; split <;> rfl
@[simp] theorem formOffset_fan (s : State) : (formOffset s).fan = s.fan := by unfold formOffset; split <;> rfl
@[simp] theorem formOffset_ths (s : State) : (formOffset s).ths = s.ths := by unfold formOffset; split <;> rfl
@[simp] theorem formOffset_sto (s : State) : (formOffset s).sto = s.sto := by unfold formOffset; split <;> rfl
@[simp] theorem formOffset_lnk (s : State) : (formOffset s).lnk = s.lnk := by unfold formOffset; split <;> rfl
@[simp] theorem formOffset_start (s : State) : (formOffset s).start = s.start := by unfold formOffset; split <;> rfl
@[simp] theorem formOffset_refActive (s : State) : (formOffset s).refActive = s.refActive := by unfold formOffset; split <;> rfl
@[simp] theorem formOffset_draw (s : State) : (formOffset s).draw = s.draw := by unfold formOffset; split <;> rfl
@[simp] theorem formOffset_pending (s : State) : (formOffset s).pending = s.pending := by unfold formOffset; split <;> rfl
@[simp] theorem formOffset_axis (s : State) (b : Axis) : (formOffset s).axis b = s.axis b := by simp only [State.axis, formOffset_axc]
@[simp] theorem formOffset_chan (s : State) (d : Chan) : (formOffset s).chan d = s.chan d := by simp only [State.chan, formOffset_drv]
@[simp] theorem formOffset_port (s : State) (q : Port) : (formOffset s).port q = s.port q := by simp only [State.port, formOffset_lnk]
@[simp] theorem formOffset_fanRec (s : State) (g : Fan) : (formOffset s).fanRec g = s.fanRec g := by simp only [State.fanRec, formOffset_fan]

@[simp] theorem pushHistory_now (o : SnapOrigin) (s : State) : (pushHistory o s).now = s.now := by unfold pushHistory; split <;> rfl
@[simp] theorem pushHistory_axc (o : SnapOrigin) (s : State) : (pushHistory o s).axc = s.axc := by unfold pushHistory; split <;> rfl
@[simp] theorem pushHistory_drv (o : SnapOrigin) (s : State) : (pushHistory o s).drv = s.drv := by unfold pushHistory; split <;> rfl
@[simp] theorem pushHistory_brk (o : SnapOrigin) (s : State) : (pushHistory o s).brk = s.brk := by unfold pushHistory; split <;> rfl
@[simp] theorem pushHistory_rlm (o : SnapOrigin) (s : State) : (pushHistory o s).rlm = s.rlm := by unfold pushHistory; split <;> rfl
@[simp] theorem pushHistory_geo (o : SnapOrigin) (s : State) : (pushHistory o s).geo = s.geo := by unfold pushHistory; split <;> rfl
@[simp] theorem pushHistory_wrp (o : SnapOrigin) (s : State) : (pushHistory o s).wrp = s.wrp := by unfold pushHistory; split <;> rfl
@[simp] theorem pushHistory_ssc (o : SnapOrigin) (s : State) : (pushHistory o s).ssc = s.ssc := by unfold pushHistory; split <;> rfl
@[simp] theorem pushHistory_fan (o : SnapOrigin) (s : State) : (pushHistory o s).fan = s.fan := by unfold pushHistory; split <;> rfl
@[simp] theorem pushHistory_ths (o : SnapOrigin) (s : State) : (pushHistory o s).ths = s.ths := by unfold pushHistory; split <;> rfl
@[simp] theorem pushHistory_fcp (o : SnapOrigin) (s : State) : (pushHistory o s).fcp = s.fcp := by unfold pushHistory; split <;> rfl
@[simp] theorem pushHistory_sto (o : SnapOrigin) (s : State) : (pushHistory o s).sto = s.sto := by unfold pushHistory; split <;> rfl
@[simp] theorem pushHistory_lnk (o : SnapOrigin) (s : State) : (pushHistory o s).lnk = s.lnk := by unfold pushHistory; split <;> rfl
@[simp] theorem pushHistory_start (o : SnapOrigin) (s : State) : (pushHistory o s).start = s.start := by unfold pushHistory; split <;> rfl
@[simp] theorem pushHistory_refActive (o : SnapOrigin) (s : State) : (pushHistory o s).refActive = s.refActive := by unfold pushHistory; split <;> rfl
@[simp] theorem pushHistory_draw (o : SnapOrigin) (s : State) : (pushHistory o s).draw = s.draw := by unfold pushHistory; split <;> rfl
@[simp] theorem pushHistory_pending (o : SnapOrigin) (s : State) : (pushHistory o s).pending = s.pending := by unfold pushHistory; split <;> rfl
@[simp] theorem pushHistory_axis (o : SnapOrigin) (s : State) (b : Axis) : (pushHistory o s).axis b = s.axis b := by simp only [State.axis, pushHistory_axc]
@[simp] theorem pushHistory_chan (o : SnapOrigin) (s : State) (d : Chan) : (pushHistory o s).chan d = s.chan d := by simp only [State.chan, pushHistory_drv]
@[simp] theorem pushHistory_port (o : SnapOrigin) (s : State) (q : Port) : (pushHistory o s).port q = s.port q := by simp only [State.port, pushHistory_lnk]
@[simp] theorem pushHistory_fanRec (o : SnapOrigin) (s : State) (g : Fan) : (pushHistory o s).fanRec g = s.fanRec g := by simp only [State.fanRec, pushHistory_fan]

@[simp] theorem unreference_now (a : Axis) (s : State) : (unreference a s).now = s.now := by unfold unreference invalidateBase; dsimp only; split <;> rfl
@[simp] theorem unreference_drv (a : Axis) (s : State) : (unreference a s).drv = s.drv := by unfold unreference invalidateBase; dsimp only; split <;> rfl
@[simp] theorem unreference_brk (a : Axis) (s : State) : (unreference a s).brk = s.brk := by unfold unreference invalidateBase; dsimp only; split <;> rfl
@[simp] theorem unreference_rlm (a : Axis) (s : State) : (unreference a s).rlm = s.rlm := by unfold unreference invalidateBase; dsimp only; split <;> rfl
@[simp] theorem unreference_lmm (a : Axis) (s : State) : (unreference a s).lmm = s.lmm := by unfold unreference invalidateBase; dsimp only; split <;> rfl
@[simp] theorem unreference_geo (a : Axis) (s : State) : (unreference a s).geo = s.geo := by unfold unreference invalidateBase; dsimp only; split <;> rfl
@[simp] theorem unreference_wrp (a : Axis) (s : State) : (unreference a s).wrp = s.wrp := by unfold unreference invalidateBase; dsimp only; split <;> rfl
@[simp] theorem unreference_ssc (a : Axis) (s : State) : (unreference a s).ssc = s.ssc := by unfold unreference invalidateBase; dsimp only; split <;> rfl
@[simp] theorem unreference_fan (a : Axis) (s : State) : (unreference a s).fan = s.fan := by unfold unreference invalidateBase; dsimp only; split <;> rfl
@[simp] theorem unreference_ths (a : Axis) (s : State) : (unreference a s).ths = s.ths := by unfold unreference invalidateBase; dsimp only; split <;> rfl
@[simp] theorem unreference_sto (a : Axis) (s : State) : (unreference a s).sto = s.sto := by unfold unreference invalidateBase; dsimp only; split <;> rfl
@[simp] theorem unreference_lnk (a : Axis) (s : State) : (unreference a s).lnk = s.lnk := by unfold unreference invalidateBase; dsimp only; split <;> rfl
@[simp] theorem unreference_start (a : Axis) (s : State) : (unreference a s).start = s.start := by unfold unreference invalidateBase; dsimp only; split <;> rfl
@[simp] theorem unreference_refActive (a : Axis) (s : State) : (unreference a s).refActive = s.refActive := by unfold unreference invalidateBase; dsimp only; split <;> rfl
@[simp] theorem unreference_draw (a : Axis) (s : State) : (unreference a s).draw = s.draw := by unfold unreference invalidateBase; dsimp only; split <;> rfl
@[simp] theorem unreference_pending (a : Axis) (s : State) : (unreference a s).pending = s.pending := by unfold unreference invalidateBase; dsimp only; split <;> rfl
@[simp] theorem unreference_chan (a : Axis) (s : State) (d : Chan) : (unreference a s).chan d = s.chan d := by simp only [State.chan, unreference_drv]
@[simp] theorem unreference_port (a : Axis) (s : State) (q : Port) : (unreference a s).port q = s.port q := by simp only [State.port, unreference_lnk]
@[simp] theorem unreference_fanRec (a : Axis) (s : State) (g : Fan) : (unreference a s).fanRec g = s.fanRec g := by simp only [State.fanRec, unreference_fan]

@[simp] theorem restateAll_now (s : State) : (restateAll s).now = s.now := rfl
@[simp] theorem restateAll_axc (s : State) : (restateAll s).axc = s.axc := rfl
@[simp] theorem restateAll_drv (s : State) : (restateAll s).drv = s.drv := rfl
@[simp] theorem restateAll_brk (s : State) : (restateAll s).brk = s.brk := rfl
@[simp] theorem restateAll_lmm (s : State) : (restateAll s).lmm = s.lmm := rfl
@[simp] theorem restateAll_geo (s : State) : (restateAll s).geo = s.geo := rfl
@[simp] theorem restateAll_wrp (s : State) : (restateAll s).wrp = s.wrp := rfl
@[simp] theorem restateAll_ssc (s : State) : (restateAll s).ssc = s.ssc := rfl
@[simp] theorem restateAll_fan (s : State) : (restateAll s).fan = s.fan := rfl
@[simp] theorem restateAll_ths (s : State) : (restateAll s).ths = s.ths := rfl
@[simp] theorem restateAll_fcp (s : State) : (restateAll s).fcp = s.fcp := rfl
@[simp] theorem restateAll_sto (s : State) : (restateAll s).sto = s.sto := rfl
@[simp] theorem restateAll_lnk (s : State) : (restateAll s).lnk = s.lnk := rfl
@[simp] theorem restateAll_start (s : State) : (restateAll s).start = s.start := rfl
@[simp] theorem restateAll_refActive (s : State) : (restateAll s).refActive = s.refActive := rfl
@[simp] theorem restateAll_draw (s : State) : (restateAll s).draw = s.draw := rfl
@[simp] theorem restateAll_pending (s : State) : (restateAll s).pending = s.pending := rfl
@[simp] theorem restateAll_axis (s : State) (b : Axis) : (restateAll s).axis b = s.axis b := rfl
@[simp] theorem restateAll_chan (s : State) (d : Chan) : (restateAll s).chan d = s.chan d := rfl
@[simp] theorem restateAll_port (s : State) (q : Port) : (restateAll s).port q = s.port q := rfl
@[simp] theorem restateAll_fanRec (s : State) (g : Fan) : (restateAll s).fanRec g = s.fanRec g := rfl

@[simp] theorem received_now (p : Port) (tag : Byte) (r : Request) (s : State) : (received p tag r s).now = s.now := rfl
@[simp] theorem received_axc (p : Port) (tag : Byte) (r : Request) (s : State) : (received p tag r s).axc = s.axc := rfl
@[simp] theorem received_drv (p : Port) (tag : Byte) (r : Request) (s : State) : (received p tag r s).drv = s.drv := rfl
@[simp] theorem received_brk (p : Port) (tag : Byte) (r : Request) (s : State) : (received p tag r s).brk = s.brk := rfl
@[simp] theorem received_rlm (p : Port) (tag : Byte) (r : Request) (s : State) : (received p tag r s).rlm = s.rlm := rfl
@[simp] theorem received_lmm (p : Port) (tag : Byte) (r : Request) (s : State) : (received p tag r s).lmm = s.lmm := rfl
@[simp] theorem received_geo (p : Port) (tag : Byte) (r : Request) (s : State) : (received p tag r s).geo = s.geo := rfl
@[simp] theorem received_wrp (p : Port) (tag : Byte) (r : Request) (s : State) : (received p tag r s).wrp = s.wrp := rfl
@[simp] theorem received_ssc (p : Port) (tag : Byte) (r : Request) (s : State) : (received p tag r s).ssc = s.ssc := rfl
@[simp] theorem received_fan (p : Port) (tag : Byte) (r : Request) (s : State) : (received p tag r s).fan = s.fan := rfl
@[simp] theorem received_ths (p : Port) (tag : Byte) (r : Request) (s : State) : (received p tag r s).ths = s.ths := rfl
@[simp] theorem received_fcp (p : Port) (tag : Byte) (r : Request) (s : State) : (received p tag r s).fcp = s.fcp := rfl
@[simp] theorem received_sto (p : Port) (tag : Byte) (r : Request) (s : State) : (received p tag r s).sto = s.sto := rfl
@[simp] theorem received_start (p : Port) (tag : Byte) (r : Request) (s : State) : (received p tag r s).start = s.start := rfl
@[simp] theorem received_refActive (p : Port) (tag : Byte) (r : Request) (s : State) : (received p tag r s).refActive = s.refActive := rfl
@[simp] theorem received_draw (p : Port) (tag : Byte) (r : Request) (s : State) : (received p tag r s).draw = s.draw := rfl
@[simp] theorem received_pending (p : Port) (tag : Byte) (r : Request) (s : State) : (received p tag r s).pending = s.pending := rfl
@[simp] theorem received_axis (p : Port) (tag : Byte) (r : Request) (s : State) (b : Axis) : (received p tag r s).axis b = s.axis b := rfl
@[simp] theorem received_chan (p : Port) (tag : Byte) (r : Request) (s : State) (d : Chan) : (received p tag r s).chan d = s.chan d := rfl
@[simp] theorem received_fanRec (p : Port) (tag : Byte) (r : Request) (s : State) (g : Fan) : (received p tag r s).fanRec g = s.fanRec g := rfl

end Sys2Proof.Machine
end

