-- ==== Sys2Proof/Laws/Rail.lean ====
section
/-! SUPPORT. What each operation of the rail manager can do: the table, its sum and its budget, the start queue and its
head, the duty report. -/

namespace Sys2Proof.Machine
open Sys2Proof

/-! ### The table (R47, R48) -/

@[simp] theorem entry_setEntry (r : Rlm) (c : Consumer) (v : Nat) : (r.setEntry c v).entry c = v := by
  cases c <;> simp [Rlm.setEntry, Rlm.entry]

theorem entry_setEntry_of_ne (r : Rlm) {c d : Consumer} (v : Nat) (h : d ≠ c) : (r.setEntry c v).entry d = r.entry d := by
  cases c <;> cases d <;> simp only [Rlm.setEntry, Rlm.entry] <;>
    first
    | exact absurd rfl h
    | exact get_set_axis_of_ne _ _ fun e => h (congrArg _ e)
    | exact get_set_fan_of_ne _ _ fun e => h (congrArg _ e)

@[simp] theorem setEntry_budget (r : Rlm) (c : Consumer) (v : Nat) : (r.setEntry c v).budget = r.budget := by cases c <;> rfl

@[simp] theorem setEntry_queue (r : Rlm) (c : Consumer) (v : Nat) : (r.setEntry c v).queue = r.queue := by cases c <;> rfl

@[simp] theorem setEntry_grants (r : Rlm) (c : Consumer) (v : Nat) : (r.setEntry c v).grants = r.grants := by cases c <;> rfl

@[simp] theorem setEntry_nextArrival (r : Rlm) (c : Consumer) (v : Nat) : (r.setEntry c v).nextArrival = r.nextArrival := by
  cases c <;> rfl

/-- Replacing an entry moves the sum by the difference (R47). -/
theorem sum_setEntry (r : Rlm) (c : Consumer) (v : Nat) : (r.setEntry c v).sum + r.entry c = r.sum + v := by
  rcases c with a | _ | f
  · cases a <;> simp only [Rlm.setEntry, Rlm.entry, Rlm.sum, PerAxis.get, PerAxis.set] <;> omega
  · simp only [Rlm.setEntry, Rlm.entry, Rlm.sum]; omega
  · cases f <;> simp only [Rlm.setEntry, Rlm.entry, Rlm.sum, PerFan.get, PerFan.set] <;> omega

theorem entry_le_sum (r : Rlm) (c : Consumer) : r.entry c ≤ r.sum := by
  have := sum_setEntry r c 0; omega

/-- A report of a lower level never raises the sum (R48). -/
theorem sum_lower_le (r : Rlm) (c : Consumer) (v : Nat) : (r.lower c v).sum ≤ r.sum := by
  have := sum_setEntry r c (min v (r.entry c))
  simp only [Rlm.lower]; omega

theorem RailSound.lowerEntry {s : State} (h : RailSound s) (c : Consumer) (v : Nat) : RailSound (lowerEntry c v s) :=
  Nat.le_trans (sum_lower_le s.rlm c v) (by simpa [Machine.lowerEntry, Rlm.lower] using h)

/-- A duty report keeps the sum within the budget (R63). -/
theorem sum_fanDuty_le (r : Rlm) (f : Fan) (d : Nat) (h : r.sum ≤ r.budget) : (r.fanDuty f d).1.sum ≤ r.budget := by
  unfold Rlm.fanDuty
  dsimp only
  have hle := entry_le_sum r (.fan f)
  split
  · rename_i hc
    have := sum_setEntry r (.fan f) (fanEntry f d)
    dsimp only; omega
  · have hs := sum_setEntry r (.fan f) (fanEntry f ((r.budget - r.sum + r.entry (.fan f)) * 1000 / ratedCurrent f))
    have hb : fanEntry f ((r.budget - r.sum + r.entry (.fan f)) * 1000 / ratedCurrent f) ≤
        r.budget - r.sum + r.entry (.fan f) := by
      cases f <;> simp only [fanEntry, ratedCurrent, ceilDiv] <;> omega
    dsimp only; omega

/-- A loaded budget is never below the sum (R50). -/
theorem sum_loadBudget_le (r : Rlm) (b : Nat) : (r.loadBudget b).sum ≤ (r.loadBudget b).budget := by
  unfold Rlm.loadBudget; split
  · assumption
  · exact Nat.le_refl _

/-! ### The start queue (R51, R52, R53, R60) -/

@[simp] theorem withdraw_sum (r : Rlm) (c : Consumer) : (r.withdraw c).sum = r.sum := rfl

/-- A withdrawal takes out the request of its consumer and no other (R60). -/
theorem mem_withdraw {r : Rlm} {c : Consumer} {q : StartReq} : q ∈ (r.withdraw c).queue ↔ q ∈ r.queue ∧ q.requester ≠ c := by
  simp [Rlm.withdraw]

theorem withdraw_nodup {r : Rlm} (c : Consumer) (h : (r.queue.map fun q => q.requester).Nodup) :
    ((r.withdraw c).queue.map fun q => q.requester).Nodup :=
  h.sublist ((List.filter_sublist (l := r.queue)).map _)

theorem request_eq_none {r : Rlm} {c : Consumer} (h : r.request c = none) : ∀ q ∈ r.queue, q.requester ≠ c := by
  intro q hq
  simpa using List.find?_eq_none.1 h q hq

/-- Everything a submission can do (R52): a request of the consumer with the same class is restated in its place, else
the request enters at the end with the next arrival number, in place of one of another class. The table stays. -/
theorem submit_cases (r : Rlm) (now : Nat) (c : Consumer) (cls : StartClass) (need : Nat) (ph : Bool) :
    (∃ q, r.request c = some q ∧ q.cls = cls ∧
      r.submit now c cls need ph = { r with queue := r.queue.map (restated c need ph) }) ∨
    ((∀ q, r.request c = some q → q.cls ≠ cls) ∧
      r.submit now c cls need ph = { r.withdraw c with
        queue := (r.withdraw c).queue ++ [⟨c, cls, need, ph, r.nextArrival, now⟩], nextArrival := r.nextArrival + 1 }) := by
  unfold Rlm.submit
  cases h : r.request c with
  | none =>
    refine .inr ⟨by simp, ?_⟩
    have hf : (r.withdraw c).queue = r.queue :=
      List.filter_eq_self.2 fun q hq => by simpa using request_eq_none h q hq
    dsimp only; rw [hf]; rfl
  | some q =>
    dsimp only
    split
    · exact .inl ⟨q, rfl, ‹_›, rfl⟩
    · exact .inr ⟨fun q' e => by cases e; assumption, rfl⟩

@[simp] theorem submit_sum (r : Rlm) (now : Nat) (c : Consumer) (cls : StartClass) (need : Nat) (ph : Bool) :
    (r.submit now c cls need ph).sum = r.sum := by
  obtain ⟨q, -, -, e⟩ | ⟨-, e⟩ := submit_cases r now c cls need ph <;> (rw [e]; rfl)

@[simp] theorem submit_budget (r : Rlm) (now : Nat) (c : Consumer) (cls : StartClass) (need : Nat) (ph : Bool) :
    (r.submit now c cls need ph).budget = r.budget := by
  obtain ⟨q, -, -, e⟩ | ⟨-, e⟩ := submit_cases r now c cls need ph
  · rw [e]
  · rw [e]; rfl

/-- A submission keeps one request per consumer (R51, R52). -/
theorem submit_nodup {r : Rlm} (now : Nat) (c : Consumer) (cls : StartClass) (need : Nat) (ph : Bool)
    (h : (r.queue.map fun q => q.requester).Nodup) :
    ((r.submit now c cls need ph).queue.map fun q => q.requester).Nodup := by
  obtain ⟨q, -, -, e⟩ | ⟨-, e⟩ := submit_cases r now c cls need ph <;> rw [e]
  · have : (fun q => q.requester) ∘ restated c need ph = fun q : StartReq => q.requester := by
      funext q; simp only [Function.comp, restated]; split <;> rfl
    simpa [this] using h
  · simp only [List.map_append, List.map_cons, List.map_nil]
    refine List.nodup_append.2 ⟨withdraw_nodup c h, by simp, ?_⟩
    intro a ha b hb
    obtain ⟨q, hq, rfl⟩ := List.mem_map.1 ha
    rw [List.mem_singleton.1 hb]
    exact (mem_withdraw.1 hq).2

/-- The head of a queue is one of its requests, and an empty queue alone has none (R53). -/
theorem headOf_mem : ∀ {l : List StartReq} {h : StartReq}, headOf l = some h → h ∈ l
  | [], _, e => by cases e
  | q :: rest, h, e => by
    unfold headOf at e
    cases hr : headOf rest with
    | none => rw [hr] at e; cases e; simp
    | some x =>
      rw [hr] at e; dsimp only at e
      have := headOf_mem hr
      split at e <;> cases e <;> simp [this]

theorem headOf_eq_none {l : List StartReq} : headOf l = none ↔ l = [] := by
  cases l with
  | nil => simp [headOf]
  | cons q rest => unfold headOf; cases headOf rest <;> simp

/-- No request of the queue comes before its head (R53). -/
theorem headOf_first : ∀ {l : List StartReq} {h : StartReq}, headOf l = some h → ∀ q ∈ l, before q h = false
  | [], _, e => by cases e
  | p :: rest, h, e => by
    have irr : ∀ x : StartReq, before x x = false := fun x => by simp [before]
    have tot : ∀ x y z : StartReq, before x y = true → before z y = false → before z x = false := by
      intro x y z; simp only [before, Bool.or_eq_true, Bool.or_eq_false_iff, Bool.and_eq_true, Bool.and_eq_false_iff,
        decide_eq_true_eq, decide_eq_false_iff_not]; omega
    have asym : ∀ x y : StartReq, before x y = true → before y x = false := by
      intro x y; simp only [before, Bool.or_eq_true, Bool.or_eq_false_iff, Bool.and_eq_true, Bool.and_eq_false_iff,
        decide_eq_true_eq, decide_eq_false_iff_not]; omega
    have low : ∀ x y z : StartReq, before x y = false → before z x = false → before z y = false := by
      intro x y z; simp only [before, Bool.or_eq_false_iff, Bool.and_eq_false_iff, decide_eq_false_iff_not]; omega
    unfold headOf at e
    cases hr : headOf rest with
    | none =>
      rw [hr] at e; cases e; rw [headOf_eq_none.1 hr]; simp [irr]
    | some x =>
      rw [hr] at e; dsimp only at e
      have ih := headOf_first hr
      intro q hq
      split at e <;> cases e
      · rename_i hb
        rcases List.mem_cons.1 hq with rfl | hq
        · exact asym _ _ hb
        · exact ih q hq
      · rename_i hb
        rcases List.mem_cons.1 hq with rfl | hq
        · exact irr _
        · exact low x p q (by simpa using hb) (ih q hq)

end Sys2Proof.Machine
end

