-- ==== Sys2Proof/Laws/Blocks.lean ====
section
/-! SUPPORT. What the shared operations of the other blocks can do: channel levels and latches, the history push, the
warp link, the keystone record, the need of a start, the examination of the start queue, the BRAKE table, the stored
image, the parking owed, and the focus base. -/

namespace Sys2Proof.Machine
open Sys2Proof

/-! ### Channels (R27 to R31) -/

/-- A latched channel stays off (R28). -/
theorem setLevel_latched {c : Channel} (now : Nat) (l : Option Nat) (h : c.latched = true) :
    c.setLevel now l = { c with level := none, check := none } := by
  cases l <;> simp [Channel.setLevel, h]

/-- A channel turned off has no level and no check (R28, R29). -/
@[simp] theorem setLevel_none (c : Channel) (now : Nat) : c.setLevel now none = { c with level := none, check := none } := rfl

@[simp] theorem setLevel_offset (c : Channel) (now : Nat) (l : Option Nat) : (c.setLevel now l).offset = c.offset := by
  unfold Channel.setLevel; split <;> (try split) <;> rfl

@[simp] theorem setLevel_latches (c : Channel) (now : Nat) (l : Option Nat) : (c.setLevel now l).latched = c.latched := by
  unfold Channel.setLevel; split <;> (try split) <;> rfl

/-- A latch is set and its channel is off (R29 to R31, R37, R41). -/
theorem setLatch_off (c : Channel) (l : Latch) :
    (c.setLatch l).latched = true ∧ (c.setLatch l).level = none ∧ (c.setLatch l).check = none := by
  cases l <;> simp [Channel.setLatch, Channel.off, Channel.latched]

/-! ### The history (R78, R79) -/

/-- Everything a history push can do: it is coalesced and changes nothing, or the snapshot stands on top and the oldest
of nine is dropped and counted (R79). -/
theorem pushHistory_cases (o : SnapOrigin) (s : State) :
    (coalesces o s.lmm.history = true ∧ pushHistory o s = s) ∨
    (coalesces o s.lmm.history = false ∧ pushHistory o s = { s with lmm := { s.lmm with
      history := (snapshot s o :: s.lmm.history).take 8
      discards := if s.lmm.history.length < 8 then s.lmm.discards else satSucc 65535 s.lmm.discards } }) := by
  unfold pushHistory
  cases h : coalesces o s.lmm.history <;> simp

/-- A history push keeps the sizes of lens memory's records (R65, R78, R79). -/
theorem LensMemoryShape.pushHistory {s : State} (h : LensMemoryShape s) (o : SnapOrigin) :
    LensMemoryShape (pushHistory o s) := by
  obtain ⟨-, e⟩ | ⟨-, e⟩ := pushHistory_cases o s <;> rw [e]
  · exact h
  · refine ⟨?_, ?_, h.2.2.1, h.2.2.2⟩
    · simp only [List.length_take]; omega
    · dsimp only
      have := h.2.1
      split
      · exact this
      · unfold satSucc; split <;> omega

/-! ### The warp link (R104 to R111) -/

/-- A sent warp is posted with its timer running, in any link (R106). -/
theorem sendWarp_shape {s : State} (now : Nat) (w : Warp) (r : Wrp) :
    WarpLinkShape { s with wrp := sendWarp now w r } :=
  ⟨⟨fun _ => rfl, fun _ => rfl⟩, fun _ => rfl, fun _ => rfl⟩

/-- Everything the link does with a new warp: POSTED keeps it pending, IDLE and STALLED send it (R106, R107). -/
theorem postWarp_cases (now : Nat) (w : Warp) (r : Wrp) :
    (r.link = .posted ∧ postWarp now w r = { r with pending := some w }) ∨
    (r.link ≠ .posted ∧ postWarp now w r = sendWarp now w r) := by
  unfold postWarp; cases h : r.link <;> simp

/-- A warp input taken keeps the shape of the link and numbers the warp (R104, R106, R107). -/
theorem takeInput_shape {s : State} (h : WarpLinkShape s) (now : Nat) (i : WarpInput) :
    WarpLinkShape { s with wrp := takeInput now i s.wrp } ∧
    (takeInput now i s.wrp).last = some (computeWarp s.wrp.nextSeq i) ∧
    (takeInput now i s.wrp).nextSeq = s.wrp.nextSeq + 1 := by
  unfold takeInput
  dsimp only
  obtain ⟨hl, e⟩ | ⟨hl, e⟩ :=
    postWarp_cases now (computeWarp s.wrp.nextSeq i)
      { s.wrp with nextSeq := s.wrp.nextSeq + 1, last := some (computeWarp s.wrp.nextSeq i) }
  · rw [e]; exact ⟨⟨h.1, h.2.1, fun _ => hl⟩, rfl, rfl⟩
  · rw [e]; exact ⟨sendWarp_shape _ _ _, rfl, rfl⟩

/-- A handed input differs from the one before it, and is the last handed afterwards (R87). -/
theorem handIfChanged_cases (s : State) :
    (s.geo.lastHanded = some (warpInput s.geo) ∧ handIfChanged s = s) ∨
    (s.geo.lastHanded ≠ some (warpInput s.geo) ∧ handIfChanged s =
      { s with geo := { s.geo with lastHanded := some (warpInput s.geo) }
               wrp := takeInput s.now (warpInput s.geo) s.wrp }) := by
  unfold handIfChanged
  dsimp only
  split
  · exact .inl ⟨‹_›, rfl⟩
  · exact .inr ⟨‹_›, rfl⟩

theorem WarpLinkShape.handIfChanged {s : State} (h : WarpLinkShape s) : WarpLinkShape (handIfChanged s) := by
  obtain ⟨-, e⟩ | ⟨-, e⟩ := handIfChanged_cases s <;> rw [e]
  · exact h
  · exact (takeInput_shape h _ _).1

/-! ### The keystone record (R84, R88, R95) -/

/-- An accepted record put in place keeps the geometry accepted (R84, R88). -/
theorem GeometryAccepted.setKeystoneRecord {s : State} (h : GeometryAccepted s) {g : Geom} (hg : judgeQuad (quadOf g) = none) :
    GeometryAccepted (setKeystoneRecord g s) := by
  unfold Machine.setKeystoneRecord
  split
  · exact ⟨h.1, h.2.1, h.2.2.1, fun x e => by cases e; exact hg⟩
  · exact ⟨hg, rfl, rfl, h.2.2.2⟩

/-- An evaluation keeps the geometry accepted: a candidate whose quad fails is not taken (R95). -/
theorem GeometryAccepted.evaluate {s : State} (h : GeometryAccepted s) (phi : Int) (band : Nat) :
    GeometryAccepted (evaluate phi band s) := by
  unfold Machine.evaluate
  dsimp only
  split
  · exact h
  · split
    · exact GeometryAccepted.setKeystoneRecord (s := countTrial _ s) h ‹_›
    · exact h

/-! ### The need of a start (R8, R14, R52) -/

/-- A start from SETTLING never takes in its partner's hold (R14, R52). -/
theorem axisNeed_fromSettling {s : State} {a : Axis} (h : fromSettling (s.axis a) = true) :
    axisNeed s a = (2 * (s.axis a).settings.run - s.rlm.entry (.axis a), false) := by
  unfold axisNeed needsPartner
  cases partnerOf a <;> simp [h]

/-- With its entry at 2 × RUN, as SETTLING leaves it, a start from SETTLING needs nothing (R14). -/
theorem axisNeed_settling_zero {s : State} {a : Axis} (h : fromSettling (s.axis a) = true)
    (he : s.rlm.entry (.axis a) = 2 * (s.axis a).settings.run) : axisNeed s a = (0, false) := by
  rw [axisNeed_fromSettling h, he, Nat.sub_self]

/-- The need takes in the partner's 2 × HOLD where the partner hold says so, and is 2 × RUN less the entry else (R8). -/
theorem axisNeed_cases (s : State) (a : Axis) :
    axisNeed s a = (2 * (s.axis a).settings.run - s.rlm.entry (.axis a), false) ∨
    ∃ p, partnerOf a = some p ∧ needsPartner s a p = true ∧ axisNeed s a =
      (2 * (s.axis a).settings.run - s.rlm.entry (.axis a) + 2 * (s.axis p).settings.hold, true) := by
  unfold axisNeed
  cases hp : partnerOf a with
  | none => exact .inl rfl
  | some p =>
    by_cases hn : needsPartner s a p = true
    · exact .inr ⟨p, rfl, hn, by simp [hn]⟩
    · exact .inl (by simp [hn])

/-! ### The examination (R54, R55, R58) -/

/-- Everything one examination can do: nothing more, the grant of the head, or the shedding for a FAN head. -/
theorem examineOnce_cases (s : State) :
    (examineOnce s = (restateAll s, false)) ∨
    (∃ h, headOf (restateAll s).rlm.queue = some h ∧ grantable (restateAll s) h = true ∧
      examineOnce s = (granted h (rlmGrant h (restateAll s)), true)) ∨
    (∃ h, headOf (restateAll s).rlm.queue = some h ∧ h.cls = .fan ∧ fits (restateAll s).rlm h.need = false ∧
      canShed (restateAll s) = true ∧ examineOnce s = (shed (restateAll s), true)) := by
  unfold examineOnce
  dsimp only
  cases hh : headOf (restateAll s).rlm.queue with
  | none => exact .inl rfl
  | some h =>
    dsimp only
    split
    · exact .inr (.inl ⟨h, rfl, ‹_›, rfl⟩)
    · split
      · rename_i hc
        simp only [Bool.and_eq_true, Bool.not_eq_true', decide_eq_true_eq] at hc
        exact .inr (.inr ⟨h, rfl, hc.1.1, hc.1.2, hc.2, rfl⟩)
      · exact .inl rfl

/-- What every examination keeps, examinations keep (R54). -/
theorem examine_keeps {P : State → Prop} (h : ∀ s, P s → P (examineOnce s).1) {s : State} (hs : P s) : P (examine s) := by
  have go : ∀ k s, P s → P (examineK k s) := by
    intro k
    induction k with
    | zero => exact fun s hs => hs
    | succ k ih =>
      intro s hs
      have := h s hs
      unfold examineK
      split <;> rename_i e <;> rw [e] at this
      · exact ih _ this
      · exact this
  exact go 4 s hs

/-- With an empty queue an examination finds nothing (R54). -/
theorem examine_empty {s : State} (h : s.rlm.queue = []) : examine s = s := by
  have hr : restateAll s = s := by
    rcases s with ⟨_, _, _, _, ⟨_, _, _, _, _, _, _, _⟩⟩; simp only at h; subst h; rfl
  have ho : examineOnce s = (s, false) := by
    unfold examineOnce; dsimp only; rw [hr, h]; rfl
  unfold examine examineK; rw [ho]

/-- A RUNNING fan whose duty falls makes its event an examination event, whatever its entry does (R63, R136). -/
theorem examines_of_decrease {old new : State} {f : Fan} (hr : (old.fanRec f).state = .running)
    (hd : (new.fanRec f).applied < (old.fanRec f).applied) : examines old new = true := by
  have hf : f ∈ allFans := by cases f <;> decide
  simp only [examines, dutyLowered, Bool.or_eq_true, List.any_eq_true]
  exact .inr ⟨f, hf, by simp [hr, hd]⟩

/-- What an event that may examine can do: the examination, or nothing more (R54). -/
theorem examineAfter_cases (old new : State) : examineAfter old new = examine new ∨ examineAfter old new = new := by
  unfold examineAfter; split
  · exact .inl rfl
  · exact .inr rfl

/-! ### The BRAKE table (R177) -/

/-- The BRAKE table as stored: every entry in its range, and HOLD at most the clamped HIT. -/
theorem acceptedEntries_brake (hit hold hitTime engageTime : Int) :
    acceptedEntries .brake [hit, hold, hitTime, engageTime] =
      [clampInt 400 1200 hit, min (clampInt 100 600 hold) (clampInt 400 1200 hit), clampInt 10 200 hitTime,
       clampInt 10 200 engageTime] := rfl

/-! ### The stored image (R180) -/

@[simp] theorem sealImage_parts (x : SavedParts) (p : List Preset) : (sealImage x p).parts = x := rfl

@[simp] theorem sealImage_presets (x : SavedParts) (p : List Preset) : (sealImage x p).presets = p := rfl

/-- An image written whole passes its check. -/
@[simp] theorem sealImage_good (x : SavedParts) (p : List Preset) : (sealImage x p).good = true := by
  simp [Image.good, sealImage]

/-- An image whose write was cut short fails its check. -/
@[simp] theorem spoilImage_good (i : Image) : (spoilImage i).good = false := by
  have h : ∀ c : Half, ~~~ c ≠ c := fun c e => by
    have := congrArg (fun x : Half => x.getLsbD 0) e
    simp at this
  simp [Image.good, spoilImage, h]

/-- What is read back from an image written whole: its parts and its presets. -/
@[simp] theorem readParts_sealImage (x : SavedParts) (p : List Preset) : readParts (sealImage x p) = x := by
  simp [readParts]

@[simp] theorem readPresets_sealImage (x : SavedParts) (p : List Preset) : readPresets (sealImage x p) = p := by
  simp [readPresets]

/-- What is read from an image whose check fails: the factory parts and twelve EMPTY slots. -/
@[simp] theorem readParts_bad {i : Image} (h : i.good = false) : readParts i = defaultParts := by
  simp [readParts, h]

@[simp] theorem readPresets_bad {i : Image} (h : i.good = false) : readPresets i = emptyPresets := by
  simp [readPresets, h]

/-! ### The parking owed (R23) -/

/-- What `parkOwed` can do: nothing, while the axis does not hold with its parking owed, the carriage is free or a shift
move waits; else the axis is parked, and in ENGAGED a queued release is withdrawn with it. -/
theorem parkOwed_cases (a : Axis) (s : State) :
    (parkOwed a s = s ∧ ¬((s.axis a).state = .holding ∧ (s.axis a).mustPark = true ∧ brakeClamped s.brk = true ∧
      shiftWaits s = false)) ∨
    ((s.axis a).state = .holding ∧ (s.axis a).mustPark = true ∧ brakeClamped s.brk = true ∧ shiftWaits s = false ∧
      parkOwed a s = if s.brk.state = .engaged then withdrawBrake (parkAxis a s) else parkAxis a s) := by
  unfold parkOwed
  by_cases h : ((s.axis a).state = .holding && (s.axis a).mustPark && brakeClamped s.brk && !shiftWaits s) = true
  · refine .inr ?_
    simp only [h, if_true]
    simpa [and_assoc] using h
  · refine .inl ⟨if_neg h, ?_⟩
    simpa [and_assoc] using h

/-- An axis that owes nothing is left as it is. -/
theorem parkOwed_free {a : Axis} {s : State} (h : (s.axis a).mustPark = false) : parkOwed a s = s := by
  simp [parkOwed, h]

/-- With no parking owed on either shift axis the state is left as it is. -/
theorem parkBothOwed_free {s : State} (h : s.axc.hsh.mustPark = false) (v : s.axc.vsh.mustPark = false) :
    parkBothOwed s = s := by
  rw [parkBothOwed, parkOwed_free (a := .hsh) h, parkOwed_free (a := .vsh) v]

/-! ### The focus base and the refusals of a recall (R76, R156, R158) -/

/-- Within the signed 32-bit range the base is the difference itself (R156, R158). -/
theorem baseOf_toInt {d : Int} (lo : int32Min ≤ d) (hi : d ≤ int32Max) : (baseOf d).toInt = d := by
  rw [baseOf, if_pos ⟨lo, hi⟩]
  simp only [int32Min, int32Max] at lo hi
  exact BitVec.toInt_ofInt_eq_self (by decide) (by omega) (by omega)

/-- A report of the end of a FOC move changes FCP's record alone (R158). -/
theorem focusReport_frame (o : Origin) (res : MoveResult) (s : State) :
    focusReport o res s = { s with fcp := (focusReport o res s).fcp } := by
  cases o <;> simp only [focusReport, invalidateBase] <;> split_ifs <;> rfl

/-- A refusal once noted stands, and one of an axis that was owed already is not noted (R76, log entry 14). -/
theorem noteRefusal_cases (owed : PerAxis Bool) (a : Axis) (r : Result) (x : Option (Axis × Result)) :
    noteRefusal owed a r x = x ∨ (x = none ∧ owed.get a = false ∧ noteRefusal owed a r x = some (a, r)) := by
  cases x with
  | some x => exact .inl rfl
  | none => cases h : owed.get a <;> simp [noteRefusal, h]

/-- A term that does not saturate is left as it is (R101). -/
theorem clamp32_self {z : Int} (h : saturates z = false) : clamp32 z = z := by
  simp only [saturates, Bool.or_eq_false_iff, decide_eq_false_iff_not, not_lt] at h
  simp only [clamp32, clampInt]
  split_ifs <;> omega

end Sys2Proof.Machine
end

