-- ==== Sys2Proof/Laws/Link.lean ====
section
/-! SUPPORT. What the end of an event's handling does: the ALERT line it forms, and the link it leaves alone when the link
is settled; the reply a request on an idle port gets. -/

namespace Sys2Proof.Machine
open Sys2Proof

/-! ### The ALERT line (R175) -/

/-- The classes standing do not depend on the ALERT line. -/
@[simp] theorem classStands_formAlert (s : State) (c : AlertClass) : classStands (formAlert s) c = classStands s c := by
  cases c <;> rfl

@[simp] theorem alertDriven_formAlert (s : State) : alertDriven (formAlert s) = alertDriven s := by
  simp only [alertDriven, classStands_formAlert]; rfl

/-- Forming the ALERT line makes it what the classes and the mask make it. -/
theorem formAlert_formed (s : State) : AlertFormed (formAlert s) := by
  simp only [AlertFormed, alertDriven_formAlert]; rfl

@[simp] theorem formAlert_port (s : State) (p : Port) : (formAlert s).port p = s.port p := by cases p <;> rfl

@[simp] theorem formAlert_formAlert (s : State) : formAlert (formAlert s) = formAlert s := by
  rw [formAlert, alertDriven_formAlert]; rfl

/-- After every command the ALERT line is formed (R175). -/
theorem finish_formed (s : State) : AlertFormed (finish s) := formAlert_formed _

/-! ### Transmitters and slots -/

/-- A free transmitter with nothing to send, or a busy one: a settled port has no reply that waits for it. -/
theorem settled_iff (hold : Bool) (r : PortRec) :
    r.Settled hold ↔
      (r.transmitter = none → r.replyReady = none ∧ (r.queue = [] ∨ hold = true)) ∧
      (∀ sv, r.serving = some sv → r.replyReady = none → sv.held = none) ∧ (r.serving = none → r.waiting = none) := by
  rcases r with ⟨rc, sv, wt, rr, tx, q, m, nl, bf, ov, ld⟩
  rcases sv with _ | ⟨f, _ | h⟩ <;> cases tx <;> cases rr <;> cases q <;> cases hold <;>
    simp [PortRec.Settled, PortRec.advance, PortRec.sendNext]

/-- Offering a notice changes neither slots nor receiver. -/
@[simp] theorem sendNext_receiver (hold : Bool) (r : PortRec) : (r.sendNext hold).receiver = r.receiver := by
  unfold PortRec.sendNext; split <;> (try split) <;> rfl

@[simp] theorem offer_receiver (hold : Bool) (n : Notice) (r : PortRec) : (r.offer hold n).receiver = r.receiver := by
  unfold PortRec.offer; split <;> (try rw [sendNext_receiver]) <;> (try split) <;> rfl

@[simp] theorem sendNext_serving (hold : Bool) (r : PortRec) : (r.sendNext hold).serving = r.serving := by
  unfold PortRec.sendNext; split <;> (try split) <;> rfl

@[simp] theorem offer_serving (hold : Bool) (n : Notice) (r : PortRec) : (r.offer hold n).serving = r.serving := by
  unfold PortRec.offer; split <;> (try rw [sendNext_serving]) <;> (try split) <;> rfl

@[simp] theorem sendNext_waiting (hold : Bool) (r : PortRec) : (r.sendNext hold).waiting = r.waiting := by
  unfold PortRec.sendNext; split <;> (try split) <;> rfl

@[simp] theorem offer_waiting (hold : Bool) (n : Notice) (r : PortRec) : (r.offer hold n).waiting = r.waiting := by
  unfold PortRec.offer; split <;> (try rw [sendNext_waiting]) <;> (try split) <;> rfl

@[simp] theorem sendNext_mask (hold : Bool) (r : PortRec) : (r.sendNext hold).mask = r.mask := by
  unfold PortRec.sendNext; split <;> (try split) <;> rfl

@[simp] theorem offer_mask (hold : Bool) (n : Notice) (r : PortRec) : (r.offer hold n).mask = r.mask := by
  unfold PortRec.offer; split <;> (try rw [sendNext_mask]) <;> (try split) <;> rfl

@[simp] theorem sendNext_badFrames (hold : Bool) (r : PortRec) : (r.sendNext hold).badFrames = r.badFrames := by
  unfold PortRec.sendNext; split <;> (try split) <;> rfl

@[simp] theorem offer_badFrames (hold : Bool) (n : Notice) (r : PortRec) : (r.offer hold n).badFrames = r.badFrames := by
  unfold PortRec.offer; split <;> (try rw [sendNext_badFrames]) <;> (try split) <;> rfl

@[simp] theorem sendNext_overruns (hold : Bool) (r : PortRec) : (r.sendNext hold).overruns = r.overruns := by
  unfold PortRec.sendNext; split <;> (try split) <;> rfl

@[simp] theorem offer_overruns (hold : Bool) (n : Notice) (r : PortRec) : (r.offer hold n).overruns = r.overruns := by
  unfold PortRec.offer; split <;> (try rw [sendNext_overruns]) <;> (try split) <;> rfl

@[simp] theorem sendNext_lastDiscard (hold : Bool) (r : PortRec) : (r.sendNext hold).lastDiscard = r.lastDiscard := by
  unfold PortRec.sendNext; split <;> (try split) <;> rfl

@[simp] theorem offer_lastDiscard (hold : Bool) (n : Notice) (r : PortRec) : (r.offer hold n).lastDiscard = r.lastDiscard := by
  unfold PortRec.offer; split <;> (try rw [sendNext_lastDiscard]) <;> (try split) <;> rfl

/-- While a reply is being formed, an offered notice stays in the queue (R170). -/
theorem offer_held (n : Notice) (r : PortRec) (hr : r.replyReady = none) (ht : r.transmitter = none) :
    (r.offer true n).replyReady = none ∧ (r.offer true n).transmitter = none := by
  rcases r with ⟨rc, sv, wt, rr, tx, q, m, nl, bf, ov, ld⟩
  subst hr; subst ht
  unfold PortRec.offer
  split
  · split <;> cases q <;> simp_all [PortRec.sendNext]
  · exact ⟨rfl, rfl⟩

/-- A settled port stays settled when a notice is offered to it (R170, R174). -/
theorem settled_offer (hold : Bool) (n : Notice) (r : PortRec) (h : r.Settled hold) : (r.offer hold n).Settled hold := by
  rw [settled_iff] at h ⊢
  rcases r with ⟨rc, sv, wt, rr, tx, q, m, nl, bf, ov, ld⟩
  unfold PortRec.offer
  split
  · split <;> cases tx <;> cases rr <;> cases q <;> cases hold <;> simp_all [PortRec.sendNext]
  · exact h

/-- Whether a reply is being formed depends on the serving slot and on the store's write. -/
theorem handling_congr {s t : State} {p : Port} (h : (t.port p).serving = (s.port p).serving)
    (hw : t.sto.write = s.sto.write) : handling t p = handling s p := by
  unfold handling; rw [h, hw]

@[simp] theorem produce_port (n : Notice) (s : State) (p : Port) :
    (produce n s).port p = (s.port p).offer (handling s p) n := by cases p <;> rfl

@[simp] theorem handling_produce (n : Notice) (s : State) (p : Port) : handling (produce n s) p = handling s p :=
  handling_congr (by simp) rfl

/-- Producing a notice leaves a settled link settled. -/
theorem LinkSettled.produce {s : State} (h : LinkSettled s) (n : Notice) : LinkSettled (produce n s) := by
  simp only [LinkSettled, produce_port, handling_produce]
  exact ⟨settled_offer _ _ _ h.1, settled_offer _ _ _ h.2⟩

/-- An event that touches neither the link nor the store leaves a settled link settled. -/
theorem LinkSettled.of_eq {s t : State} (h : LinkSettled s) (hl : t.lnk = s.lnk) (hw : t.sto.write = s.sto.write) :
    LinkSettled t := by
  have hp : ∀ p, t.port p = s.port p := fun p => by simp only [State.port, hl]
  have hh : ∀ p, handling t p = handling s p := fun p => handling_congr (by rw [hp]) hw
  simpa only [LinkSettled, hp, hh] using h

/-- A settled port is one whose transmitter and slots stay as they are. -/
theorem advancePort_settled {s : State} {p : Port} (h : (s.port p).Settled (handling s p)) : advancePort p s = s := by
  rw [advancePort, h.1, setPort_port]

/-- A settled port stays as it is at the end of an event. -/
theorem settlePort_settled {s : State} {p : Port} (h : (s.port p).Settled (handling s p)) : settlePort p s = s := by
  have hs : serveWaiting p s = s := by
    unfold serveWaiting
    split
    · rename_i h1 h2; rw [h.2 h1] at h2; cases h2
    · rfl
  rw [settlePort, advancePort_settled h, advancePort_settled h, hs, advancePort_settled h]

/-- With a settled link, the end of an event forms the ALERT line and does nothing else (R168, R170, R175). -/
theorem finish_settled {s : State} (h : LinkSettled s) : finish s = formAlert s := by
  rw [finish, settlePort_settled h.1, settlePort_settled h.2]

/-- The answer of a command whose effect leaves the link settled. -/
theorem done_settled {s : State} (h : LinkSettled s) : done s = .next (formAlert s) := by
  rw [done, finish_settled h]

/-! ### Requests on an idle port (R168 to R170) -/

/-- The frame of a request stands in the serving slot of an otherwise idle port while its owner acts, and the other
port is settled. -/
structure InService (p : Port) (tag : Byte) (r : Request) (s : State) : Prop where
  serving : (s.port p).serving = some ⟨⟨tag, r⟩, none⟩
  waiting : (s.port p).waiting = none
  ready : (s.port p).replyReady = none
  transmitter : (s.port p).transmitter = none
  handling : handling s p = true
  other : ∀ q, q ≠ p → (s.port q).Settled (Machine.handling s q)

/-- Producing a notice keeps a request in service. -/
theorem InService.produce {p : Port} {tag : Byte} {r : Request} {s : State} (h : InService p tag r s) (n : Notice) :
    InService p tag r (produce n s) := by
  have ho := offer_held n (s.port p) h.ready h.transmitter
  refine ⟨?_, ?_, ?_, ?_, ?_, ?_⟩
  · simpa using h.serving
  · simpa using h.waiting
  · rw [produce_port, h.handling]; exact ho.1
  · rw [produce_port, h.handling]; exact ho.2
  · simpa using h.handling
  · intro q hq
    simp only [produce_port, handling_produce]
    exact settled_offer _ _ _ (h.other q hq)

/-- What leaves the two port records and the store's write alone keeps a request in service. -/
theorem InService.of_eq {p : Port} {tag : Byte} {r : Request} {s t : State} (h : InService p tag r s)
    (hm : t.lnk.main = s.lnk.main) (hs : t.lnk.service = s.lnk.service) (hw : t.sto.write = s.sto.write) :
    InService p tag r t := by
  have hp : ∀ q, t.port q = s.port q := fun q => by cases q <;> simp only [State.port, Lnk.port, hm, hs]
  have hh : ∀ q, Machine.handling t q = Machine.handling s q := fun q => handling_congr (by rw [hp]) hw
  exact ⟨by rw [hp]; exact h.serving, by rw [hp]; exact h.waiting, by rw [hp]; exact h.ready,
    by rw [hp]; exact h.transmitter, by rw [hh]; exact h.handling, fun q hq => by rw [hp, hh]; exact h.other q hq⟩

/-- A frame that arrives on an idle port is in service. -/
theorem inService_received {p : Port} {s : State} (h : LinkReady p s) (tag : Byte) (r : Request) :
    InService p tag r (received p tag r s) := by
  obtain ⟨hset, ⟨h1, h2, h3, h4, h5⟩, hw⟩ := h
  refine ⟨by simp [received], by simp [received, h2], by simp [received, h3], by simp [received, h4], ?_, ?_⟩
  · simp only [Machine.handling, received, port_setPort, setPort_sto]
    rcases hwr : s.sto.write with _ | ⟨q, _, _⟩ | ⟨q, _⟩ <;> simp_all [writer, Write.port] <;>
      exact fun e => hw e.symm
  · intro q hq
    have hp : (received p tag r s).port q = s.port q := port_setPort_of_ne _ _ hq
    rw [hp, handling_congr (s := s) (t := received p tag r s) (p := q) (by rw [hp]) rfl]
    cases q
    · exact hset.1
    · exact hset.2

/-- A request in service that is answered leaves its reply on the transmitter (R168 to R170). -/
theorem finish_answered {p : Port} {tag : Byte} {r : Request} {s : State} (h : InService p tag r s) (a : Answer) :
    finish (s.setPort p ((s.port p).placeReply ⟨⟨tag, r⟩, none⟩ (replyOf ⟨tag, r⟩ a))) = replied p tag r a s := by
  have hstep : ∀ q, q ≠ p → ∀ x : PortRec, (((s.setPort p x).port q).Settled (Machine.handling (s.setPort p x) q)) := by
    intro q hq x
    rw [port_setPort_of_ne _ _ hq,
      handling_congr (s := s) (t := s.setPort p x) (p := q) (by rw [port_setPort_of_ne _ _ hq]) rfl]
    exact h.other q hq
  have hfree : ∀ x : PortRec, x.serving = none → Machine.handling (s.setPort p x) p = false := by
    intro x hx; simp [Machine.handling, hx]
  have hown : settlePort p (s.setPort p ((s.port p).placeReply ⟨⟨tag, r⟩, none⟩ (replyOf ⟨tag, r⟩ a))) =
      s.setPort p { s.port p with serving := none, transmitter := some (.reply (replyOf ⟨tag, r⟩ a)) } := by
    have h1 : advancePort p (s.setPort p ((s.port p).placeReply ⟨⟨tag, r⟩, none⟩ (replyOf ⟨tag, r⟩ a))) =
        s.setPort p { s.port p with serving := none, transmitter := some (.reply (replyOf ⟨tag, r⟩ a)) } := by
      simp [advancePort, PortRec.placeReply, h.ready, PortRec.advance, PortRec.sendNext, h.transmitter]
    have hs : (({ s.port p with serving := none, transmitter := some (.reply (replyOf ⟨tag, r⟩ a)) } : PortRec)).Settled
        false := by
      rw [settled_iff]; simp [h.waiting]
    have h2 : ((s.setPort p { s.port p with
          serving := none, transmitter := some (.reply (replyOf ⟨tag, r⟩ a)) }).port p).Settled
        (Machine.handling (s.setPort p { s.port p with
          serving := none, transmitter := some (.reply (replyOf ⟨tag, r⟩ a)) }) p) := by
      rw [port_setPort, hfree _ rfl]; exact hs
    have h3 := settlePort_settled h2
    rw [settlePort, advancePort_settled h2, advancePort_settled h2] at h3
    rw [settlePort, h1, advancePort_settled h2]
    exact h3
  unfold finish replied
  cases p
  · rw [hown, settlePort_settled (hstep .service (by decide) _)]
  · rw [settlePort_settled (hstep .main (by decide) _), hown]

/-- A request that arrives on an idle port is served at once, and its reply is sent (R168 to R170): `t` and `a` are what
its owner makes of it. -/
theorem arrive_ready {p : Port} {s t : State} {tag : Byte} {r : Request} {a : Answer} (h : LinkReady p s)
    (hj : judgeRequest r = r) (hd : deliver p r (received p tag r s) = (t, some a)) (ht : InService p tag r t) :
    arrive p tag r s = replied p tag r a t := by
  obtain ⟨-, ⟨h1, h2, -, -, -⟩, -⟩ := h
  have hs : takeChecked p ⟨tag, r⟩ s = serve p ⟨tag, r⟩ s := by simp only [takeChecked, h1, h2]
  have hv : serve p ⟨tag, r⟩ s = t.setPort p ((t.port p).placeReply ⟨⟨tag, r⟩, none⟩ (replyOf ⟨tag, r⟩ a)) := by
    unfold received at hd
    simp only [serve, hd]
  rw [arrive, hj, hs, hv, finish_answered ht]

end Sys2Proof.Machine
end

