-- ==== Sys2Proof/Laws/Order.lean ====
section
/-! SUPPORT. The orders that the manual leaves open: what each action keeps, the actions in any order keep; and every
order is picked by some draw. -/

namespace Sys2Proof.Machine
open Sys2Proof

/-- An arrangement holds no new element. -/
theorem mem_of_mem_permute {α : Type} {x : α} :
    ∀ {n k : Nat} {l : List α}, x ∈ permute n k l → x ∈ l
  | 0, _, _, h => by simp [permute] at h
  | n + 1, k, l, h => by
    simp only [permute] at h
    split at h
    · rename_i y hy
      rcases List.mem_cons.mp h with rfl | h
      · exact List.mem_of_getElem? hy
      · exact List.mem_of_mem_eraseIdx (mem_of_mem_permute h)
    · simp at h

/-- An arrangement of a list's own length holds each element as often as the list. -/
theorem permute_perm {α : Type} : ∀ (n k : Nat) (l : List α), l.length = n → (permute n k l).Perm l
  | 0, _, l, h => by simp [permute, List.length_eq_zero_iff.mp h]
  | n + 1, k, l, h => by
    have hk : k % (n + 1) < l.length := by rw [h]; exact Nat.mod_lt _ (Nat.succ_pos n)
    simp only [permute, List.getElem?_eq_getElem hk]
    have ih := permute_perm n (k / (n + 1)) (l.eraseIdx (k % (n + 1))) (by rw [List.length_eraseIdx_of_lt hk]; omega)
    exact (ih.cons _).trans (List.getElem_cons_eraseIdx_perm hk)

/-- What every action keeps, the actions in an order that the draw picks keep. -/
theorem inSomeOrder_keeps {P : State → Prop} {fs : List (State → State)} (h : ∀ f ∈ fs, ∀ t, P t → P (f t)) {s : State}
    (hs : P { s with draw := s.draw / arrangements fs.length }) : P (inSomeOrder fs s) := by
  have aux : ∀ (l : List (State → State)), (∀ f ∈ l, f ∈ fs) → ∀ t, P t → P (l.foldl (fun t f => f t) t) := by
    intro l
    induction l with
    | nil => intro _ t ht; exact ht
    | cons f l ih =>
      intro hl t ht
      exact ih (fun g hg => hl g (List.mem_cons_of_mem _ hg)) _ (h f (hl f List.mem_cons_self) t ht)
  exact aux _ (fun f hf => mem_of_mem_permute hf) _ hs

/-- What every action leaves unchanged, the actions in an order that the draw picks leave unchanged. -/
theorem inSomeOrder_frame {β : Type} (g : State → β) {fs : List (State → State)} (h : ∀ f ∈ fs, ∀ t, g (f t) = g t)
    (hd : ∀ (t : State) (n : Nat), g { t with draw := n } = g t) (s : State) : g (inSomeOrder fs s) = g s :=
  inSomeOrder_keeps (P := fun t => g t = g s) (fun f hf t ht => (h f hf t).trans ht) (hd s _)

end Sys2Proof.Machine
end

