-- ==== Sys2Proof/Tests/Slice0.lean ====
section
/-! SUPPORT. Tests: one step each on a small state, with the result worked in the manual or by hand from its rules; the
well-formedness checks refusing an ill-formed term; and for each statement that has hypotheses, states and operands that
meet them. -/

open Sys2Proof Sys2Proof.Machine

namespace Sys2Proof.Tests

/- The kernel evaluates the tests one after the other, so that they need no thread each. -/
set_option Elab.async false

/-! ### Helpers -/

/-- The command answers a next state of which `f` holds. -/
def gives (i : Instr) (s : State) (f : State → Bool) : Bool :=
  match exec i s with
  | .next t => f t
  | .fault _ => false
  | .refused _ => false

/-- The reply that stands on a transmitter: its result. -/
def resultOf (r : PortRec) : Option Result :=
  match r.transmitter with
  | some (.reply x) => some x.result
  | some (.notice _) => none
  | none => none

/-- The flags of the reply on a transmitter. -/
def flagsOf (r : PortRec) : Option Flags :=
  match r.transmitter with
  | some (.reply x) => some x.flags
  | some (.notice _) => none
  | none => none

/-- The bytes of the frame on a transmitter. -/
def bytesOf (r : PortRec) : List Byte :=
  match r.transmitter with
  | some f => outBytes f
  | none => []

/-- The command is answered with this result on MAIN. -/
def answered (i : Instr) (s : State) (r : Result) : Bool := gives i s fun t => resultOf (t.port .main) = some r

/-- The command is answered with this result on SERVICE. -/
def answeredS (i : Instr) (s : State) (r : Result) : Bool := gives i s fun t => resultOf (t.port .service) = some r

/-- The part at rest: start-up over, no run due. -/
def rest : State :=
  { State.reset with
    drv := { State.reset.drv with due := false }
    start := ⟨.powerOn, .done, true⟩ }

/-- `rest` with the record of an axis changed. -/
def withAxis (a : Axis) (f : AxisRec → AxisRec) (s : State) : State := s.setAxis a (f (s.axis a))

/-- `rest` with the calibration window open. -/
def shut (s : State) : State := { s with drv := { s.drv with window := some 30 } }

/-- The four axes referenced, ZOM at 10,000 as in 1.14. -/
def known : State :=
  withAxis .zom (fun r => { r with referenced := true, position := 10000, lastDir := .pos })
    (withAxis .foc (fun r => { r with referenced := true })
      (withAxis .hsh (fun r => { r with referenced := true }) (withAxis .vsh (fun r => { r with referenced := true }) rest)))

/-- ZOM in the cruise of 1.14's step 3: at 11,200, bound for 20,000 at NORMAL. -/
def cruising : State :=
  withAxis .zom (fun r => { r with
    state := .moving, phase := .cruise, position := 11200, target := 20000, turnPoint := 20000, dir := .pos
    speedClass := .normal, speed := 3200000, profile := .cruise, leg := .toTarget }) known

/-- The regime, the used temperatures alike for all six sensors. -/
def inRegime (r : Regime) (t : Int) (s : State) : State :=
  { s with ths := { s.ths with regime := r, used := some (PerThermo.all ⟨t, false⟩) } }

/-- The three fans RUNNING at the duties and entries of 2.10 (sum 423). -/
def fansOn (s : State) : State :=
  let run := fun (d : Nat) (r : FanRec) =>
    { r with state := .running, applied := d, demand := d, cappedDuty := d, dutyMin := d, wholePeriod := true }
  { s with
    fan := { s.fan with recs :=
      ⟨run 400 s.fan.recs.fan0, run 250 s.fan.recs.fan1, run 250 s.fan.recs.fan2⟩ }
    rlm := { s.rlm with fans := ⟨260, 75, 88⟩ } }

/-! ### Words and frames (R105, R166, R167) -/

/-- R105: the check of the nine characters "123456789" is 0x29B1. -/
theorem test_crc : crc16 [0x31, 0x32, 0x33, 0x34, 0x35, 0x36, 0x37, 0x38, 0x39] = 0x29B1 := by decide +kernel

/-- R166: the frame of IDENT_GET with TAG 7, its check 0xE12A worked by hand, low byte first. -/
theorem test_ident_frame : frameBytes (kindOf .identGet) 7 (payloadOf .identGet) = [0xD5, 2, 1, 7, 0x2A, 0xE1] := by
  decide +kernel

/-- R166, R171: the frame of 11.10's AXIS_MOVE (ZOM, 20,000, NORMAL) with TAG 18 is read with every field. -/
theorem test_frame_received :
    gives (.frameReceived .main [0xD5, 8, 0x10, 18, 2, 0x20, 0x4E, 0, 0, 1, 0xB2, 0x04]) (shut known)
      (fun t => (t.axis .zom).state = .waitStart && (t.axis .zom).pendingTarget = some 20000 &&
        (t.axis .zom).speedClass = .normal && resultOf (t.port .main) = some .accepted) = true := by
  decide +kernel

/-- R167: a frame whose check does not match is discarded with reason CHECK, and the LINK latch is set. -/
theorem test_frame_received_bad_check :
    gives (.frameReceived .main [0xD5, 2, 1, 7, 0x2A, 0xE0]) rest
      (fun t => (t.port .main).badFrames = 1 && (t.port .main).lastDiscard = .check && t.lnk.linkLatch &&
        (t.port .main).transmitter = none) = true := by
  decide +kernel

/-- R167: a gap inside a frame discards it with reason GAP. -/
theorem test_frame_gap :
    gives (.frameGapTimeout .main) (rest.setPort .main { rest.port .main with receiver := .inFrame [9, 0x10] })
      (fun t => (t.port .main).receiver = .hunt && (t.port .main).lastDiscard = .gap && (t.port .main).badFrames = 1) =
      true := by
  decide +kernel

/-- R170: the reply in reply ready leaves before the oldest notice. -/
theorem test_frame_transmit_end :
    gives (.frameTransmitEnd .main)
      (rest.setPort .main { rest.port .main with
        transmitter := some (.notice (.fault .noRelease)), queue := [.fault .noRelease]
        replyReady := some ⟨0x10, 18, .accepted, noFlags, []⟩ })
      (fun t => resultOf (t.port .main) = some .accepted && (t.port .main).queue.length = 1) = true := by
  decide +kernel

/-- 11.10: with both slots of MAIN taken, a third request is an overrun. -/
theorem test_overrun :
    gives (.statusGet .main 19)
      (rest.setPort .main { rest.port .main with
        serving := some ⟨⟨17, .presetStore 2 3 0 []⟩, none⟩, waiting := some ⟨18, .axisMove 2 20000 1⟩ })
      (fun t => (t.port .main).overruns = 1 && (t.port .main).lastDiscard = .overrun && t.lnk.linkLatch && !t.lnk.alert) =
      true := by
  decide +kernel

/-! ### Requests of the link -/

/-- R166, R179: the reply to IDENT_GET is KIND 0x81 with the request's TAG, and begins OK, no flags, "NCL-2204". -/
theorem test_ident_get :
    gives (.identGet .main 7) rest
      (fun t => ((bytesOf (t.port .main)).drop 2).take 12 =
        [0x81, 7, 0, 0, 0x4E, 0x43, 0x4C, 0x2D, 0x32, 0x32, 0x30, 0x34]) = true := by
  decide +kernel

/-- R178: STATUS_GET clears NOTICE_LOST on the port that asks. -/
theorem test_status_get :
    gives (.statusGet .main 1) (rest.setPort .main { rest.port .main with noticeLost := true })
      (fun t => (t.port .main).noticeLost = false && resultOf (t.port .main) = some .ok) = true := by
  decide +kernel

/-- R175: with LINK unmasked a standing LINK latch drives ALERT. -/
theorem test_alert_mask_set :
    gives (.alertMaskSet .main 1 0) { rest with lnk := { rest.lnk with linkLatch := true } }
      (fun t => t.lnk.alertMask = 0 && t.lnk.alert) = true := by
  decide +kernel

/-- R176: ALERT_CLEAR clears the LINK latch and leaves the counters. -/
theorem test_alert_clear :
    gives (.alertClear .main 1)
      { rest with lnk := { rest.lnk with linkLatch := true, main := { rest.lnk.main with badFrames := 1, overruns := 1 } } }
      (fun t => !t.lnk.linkLatch && (t.port .main).badFrames = 1 && (t.port .main).overruns = 1) = true := by
  decide +kernel

/-- R174: the notice mask is that of the asking port. -/
theorem test_notice_mask_set :
    gives (.noticeMaskSet .service 1 0x0F) rest
      (fun t => (t.port .service).mask = 0x0F && (t.port .main).mask = 0xFF) = true := by
  decide +kernel

/-- R185: RESET is answered OK, and the soft reset waits for the reply. -/
theorem test_reset :
    gives (.reset .main 1) rest
      (fun t => t.lnk.arranged = some ⟨.main, false, 0⟩ && resultOf (t.port .main) = some .ok) = true := by
  decide +kernel

/-- R173: the permission map set from SERVICE. -/
theorem test_permit_set : gives (.permitSet .service 1 0x3B) rest (fun t => t.lnk.permit = 0x3B) = true := by
  decide +kernel

/-- R172: PERMIT_SET from MAIN is OK with MASKED. -/
theorem test_permit_set_main :
    gives (.permitSet .main 1 0) rest
      (fun t => t.lnk.permit = 0x3F && flagsOf (t.port .main) = some ⟨false, true, false, false⟩) = true := by
  decide +kernel

/-! ### Motion requests (1.14, 1.15, 2.10) -/

/-- 1.14 step 2: granted at once, the reservation is 600, the coils are at RUN 300 and the turn point is 20,000. -/
theorem test_axis_move :
    gives (.axisMove .main 18 2 20000 1) known
      (fun t => (t.axis .zom).state = .moving && (t.axis .zom).phase = .accel && (t.axis .zom).turnPoint = 20000 &&
        t.rlm.axes.zom = 600 && (t.chan .ch4).level = some 300 && (t.chan .ch5).level = some 300) = true := by
  decide +kernel

/-- 1.14 step 4, at 13,600: the target 12,000 lies behind, so ZOM decelerates onto the stop point 14,000. -/
theorem test_axis_move_behind :
    gives (.axisMove .main 18 2 12000 1) (withAxis .zom (fun r => { r with position := 13600 }) cruising)
      (fun t => (t.axis .zom).phase = .decel && (t.axis .zom).target = 12000 && (t.axis .zom).turnPoint = 14000) = true := by
  decide +kernel

/-- 1.14 step 3: a jog of −2,000 from the target 20,000 gives 18,000 ahead; the cruise goes on. -/
theorem test_axis_jog :
    gives (.axisJog .main 18 2 (-2000) 1) cruising
      (fun t => (t.axis .zom).phase = .cruise && (t.axis .zom).target = 18000 && (t.axis .zom).turnPoint = 18000 &&
        (t.axis .zom).position = 11200) = true := by
  decide +kernel

/-- 1.14: AXIS_STOP at 13,600 comes to rest at 14,000. -/
theorem test_axis_stop :
    gives (.axisStop .main 1 2) (withAxis .zom (fun r => { r with position := 13600 }) cruising)
      (fun t => (t.axis .zom).turnPoint = 14000 && (t.axis .zom).endResult = some .stopped) = true := by
  decide +kernel

/-- R16: a home of ZOM is accepted unreferenced, at SLOW. -/
theorem test_axis_home :
    gives (.axisHome .main 1 2) (shut known)
      (fun t => (t.axis .zom).state = .waitStart && !(t.axis .zom).referenced && (t.axis .zom).origin = .home &&
        (t.axis .zom).speedClass = .slow) = true := by
  decide +kernel

/-- R3: from MAIN RUN is protected; the takeup length, an operator setting, is taken. -/
theorem test_axis_config_set :
    gives (.axisConfigSet .main 1 2 ⟨0, 100, 0, 500, 200, 12800, 40, 0, 64, 1, 100⟩) known
      (fun t => (t.axis .zom).settings.run = 300 && (t.axis .zom).settings.takeup = 64 &&
        flagsOf (t.port .main) = some ⟨false, true, false, false⟩) = true := by
  decide +kernel

/-- R3 and the signed lengths of the conventions: a takeup length of −1 is below 0 and is clamped to it. -/
theorem test_axis_config_set_takeup :
    gives (.axisConfigSet .main 1 2 ⟨0, 36000, 0, 300, 100, 12800, 40, 0, -1, 1, 100⟩) known
      (fun t => (t.axis .zom).settings.takeup = 0 &&
        flagsOf (t.port .main) = some ⟨true, true, false, false⟩) = true := by
  decide +kernel

/-- R4: an axis number outside the set is RANGE. -/
theorem test_axis_config_get : answered (.axisConfigGet .main 1 4) rest .range = true := by decide +kernel

/-- R26: a FAULTED axis becomes PARKED and unreferenced. -/
theorem test_axis_clear :
    gives (.axisClear .main 1 2) (withAxis .zom (fun r => { r with state := .faulted, faultCause := some .stall }) known)
      (fun t => (t.axis .zom).state = .parked && (t.axis .zom).faultCause = none && !(t.axis .zom).referenced) = true := by
  decide +kernel

/-- R26: a RAIL_LOW cause that still stands is refused with STATE. -/
theorem test_axis_clear_standing :
    answered (.axisClear .main 1 2)
      (withAxis .zom (fun r => { r with state := .faulted, faultCause := some .railLow })
        { known with drv := { known.drv with railLow := true } }) .state = true := by
  decide +kernel

/-- R45: BRAKE_CLEAR makes a FAULTED brake ENGAGED; while clamp pending runs it is BUSY. -/
theorem test_brake_clear :
    gives (.brakeClear .main 1) { rest with brk := { rest.brk with state := .faulted, cause := some .noRelease } }
      (fun t => t.brk.state = .engaged && t.brk.cause = none) = true := by
  decide +kernel

theorem test_brake_clear_busy :
    answered (.brakeClear .main 1)
      { rest with brk := { rest.brk with state := .faulted, clampPending := true, timer := some 40 } } .busy = true := by
  decide +kernel

/-- R38: CALIBRATE with every channel off opens the window for 30 ms. -/
theorem test_calibrate :
    gives (.calibrate .main 1) rest (fun t => t.drv.window = some 30 && t.drv.requested) = true := by decide +kernel

/-- R46: a release with the coils off is refused with STATE. -/
theorem test_brake_set : answeredS (.brakeSet .service 1 1) rest .state = true := by decide +kernel

/-- The channels of both shift pairs driven at 200 mA. -/
def shiftOn (s : State) : State :=
  let on := fun (c : Channel) => { c with level := some 200 }
  { s with drv := { s.drv with chans := { s.drv.chans with
      ch0 := on s.drv.chans.ch0, ch1 := on s.drv.chans.ch1, ch2 := on s.drv.chans.ch2, ch3 := on s.drv.chans.ch3 } } }

/-- R23: BRAKE_SET engages with VSH decelerating to STOPPED; its end result becomes BRAKE_ENGAGED. -/
theorem test_brake_set_engage :
    gives (.brakeSet .service 1 0)
      (withAxis .hsh (fun r => { r with state := .holding })
        (withAxis .vsh (fun r => { r with
          state := .moving, phase := .decel, profile := .decel, leg := .stop, endResult := some .stopped
          speed := 800000 })
          (shiftOn { known with brk := { known.brk with state := .released } })))
      (fun t => t.brk.state = .engaging && (t.axis .vsh).endResult = some .brakeEngaged && (t.axis .vsh).mustPark &&
        (t.axis .hsh).mustPark) = true := by
  decide +kernel

/-! ### Lens memory (4.4, 10.7) -/

/-- 11.10: PRESET_STORE (slot 2, "Wide", HSH and VSH) begins a write, and its reply waits. -/
theorem test_preset_store :
    gives (.presetStore .main 17 2 3 0 [0x57, 0x69, 0x64, 0x65]) known
      (fun t => t.sto.write.isSome && (t.port .main).serving.isSome && (t.port .main).transmitter = none) = true := by
  decide +kernel

/-- R67: an axis of the mask that is unreferenced is STATE. -/
theorem test_preset_store_state : answered (.presetStore .main 17 2 4 0 []) rest .state = true := by decide +kernel

/-- The slot of 4.4: ZOM 24,000, FOC base 15,200, MANUAL with V 120. -/
def scope : Preset :=
  ⟨true, [0x53], ⟨none, none, some 24000, some 15200⟩, true, some ⟨noOffsets, .manual, 120⟩⟩

/-- The starting state of 4.4: offset_now −72, FOC at 14,000 with base 14,072, MANUAL with V 0. -/
def beforeRecall : State :=
  withAxis .foc (fun r => { r with position := 14000 })
    { known with
      lmm := { known.lmm with presets := known.lmm.presets.set 3 scope }
      fcp := { known.fcp with baseValid := true, base := 14072, offsetKnown := true, offsetNow := -72 }
      geo := { known.geo with live := ⟨⟨noOffsets, .manual, 0⟩, .auto, .active⟩ } }

/-- 4.4: the recall owes ZOM and FOC, FOC's target is 15,128, the staged geometry has V 120, and the snapshot holds the
base 14,072. ZOM is granted at once; FOC waits for the spacing. -/
theorem test_preset_recall :
    gives (.presetRecall .main 1 3) beforeRecall
      (fun t => t.lmm.owed = ⟨false, false, true, true⟩ && (t.axis .zom).target = 24000 &&
        (t.axis .foc).pendingTarget = some 15128 && t.lmm.staged = some ⟨noOffsets, .manual, 120⟩ &&
        t.lmm.history.map (fun x => (x.pos.foc, x.focBase)) = [(some 14072, true)] && t.rlm.axes.zom = 600 &&
        (t.axis .foc).state = .waitStart) = true := by
  decide +kernel

/-- R71: an EMPTY slot is EMPTY. -/
theorem test_preset_recall_empty : answered (.presetRecall .main 1 5) beforeRecall .empty = true := by decide +kernel

/-- R69: an EMPTY slot carries its status alone. -/
theorem test_preset_get :
    gives (.presetGet .main 9 0) rest
      (fun t => (bytesOf (t.port .main)).take 7 = [0xD5, 5, kindOf (.presetGet 0) + 0x80, 9, 0, 0, 0]) = true := by
  decide +kernel

/-- R68: PRESET_ERASE of a VALID slot begins a write of an EMPTY one. -/
theorem test_preset_erase :
    gives (.presetErase .main 1 3) beforeRecall
      (fun t => t.sto.write = some (.preset .main 3 emptyPreset) && (t.port .main).transmitter = none) = true := by
  decide +kernel

/-- R80: an empty stack is EMPTY; a snapshot of ZOM at 9,000 asks ZOM for it. -/
theorem test_history_back : answered (.historyBack .main 1) known .empty = true := by decide +kernel

theorem test_history_back_moves :
    gives (.historyBack .main 1)
      { known with lmm := { known.lmm with
          history := [⟨⟨none, none, some 9000, none⟩, false, ⟨noOffsets, .manual, 0⟩, .move⟩] } }
      (fun t => t.lmm.history = [] && t.lmm.owed.zom && (t.axis .zom).target = 9000 && (t.axis .zom).origin = .back &&
        (t.axis .zom).turnPoint = 8880) = true := by
  decide +kernel

/-- R81: an index past 7 is RANGE, an empty entry EMPTY. -/
theorem test_history_get : answered (.historyGet .main 1 8) rest .range = true := by decide +kernel
theorem test_history_get_empty : answered (.historyGet .main 1 7) rest .empty = true := by decide +kernel

/-! ### Geometry (5.7, 6.7) and the warp link -/

/-- The installer's record of 5.7 with V 48, live and in AUTO. -/
def inset : Geom := ⟨⟨⟨960, 540⟩, ⟨-960, 540⟩, ⟨-900, -540⟩, ⟨900, -540⟩⟩, .auto, 48⟩

/-- The part of 5.7 before scan s1. -/
def installed : State :=
  { known with geo := { known.geo with
      live := ⟨inset, .auto, .active⟩, quad := quadOf inset, permille := 251, phiUsed := 32, refreshDue := false } }

/-- 5.7: KEYSTONE_SET (MANUAL, 40) passes with permille 252 and clears GEOM_HOLD. -/
theorem test_keystone_set :
    gives (.keystoneSet .main 1 0 40) { installed with geo := { installed.geo with geomHold := true } }
      (fun t => t.geo.live.geom.v = 40 && t.geo.live.geom.mode = .manual && t.geo.permille = 252 && !t.geo.geomHold &&
        resultOf (t.port .main) = some .ok) = true := by
  decide +kernel

/-- 5.7: with V 65 the area is below the minimum, and the request is refused with GEOMETRY. -/
theorem test_keystone_set_area :
    gives (.keystoneSet .main 1 0 65) installed
      (fun t => t.geo = installed.geo && resultOf (t.port .main) = some .geometry) = true := by
  decide +kernel

/-- R88: corner 0 of a MANUAL record moved to (120, 20); the quad follows and is handed. -/
theorem test_corner_set :
    gives (.cornerSet .main 1 0 120 20) beforeRecall
      (fun t => t.geo.quad = ⟨⟨120, 20⟩, ⟨3840, 0⟩, ⟨3840, 2160⟩, ⟨0, 2160⟩⟩ && t.wrp.link = .posted &&
        t.lmm.history.length = 1) = true := by
  decide +kernel

/-- 6.7: the warp of the quad with V 192. -/
theorem test_warp_of_keystone_192 :
    computeWarp 41 ⟨⟨⟨192, 0⟩, ⟨3648, 0⟩, ⟨3840, 2160⟩, ⟨0, 2160⟩⟩, 950, false, false⟩ =
      ⟨41, false, false, 950, ⟨⟨192, 0⟩, ⟨3648, 0⟩, ⟨3840, 2160⟩, ⟨0, 2160⟩⟩,
        884736, -49152, 49152, 0, 497664, 0, 0, -1677722⟩ := by
  decide +kernel

/-- 6.8: the warp of the general quad. -/
theorem test_warp_of_general_quad :
    warpTerms (computeWarp 0 ⟨⟨⟨120, 20⟩, ⟨3680, 30⟩, ⟨3840, 2160⟩, ⟨0, 2160⟩⟩, 952, false, false⟩) =
      [915783, -30720, 30720, 2596, 507412, 5120, 78766, -1226621] := by
  decide +kernel

/-- R90: MOUNT_SET CEILING hands the same quad with CEILING set. -/
theorem test_mount_set :
    gives (.mountSet .main 1 2) installed
      (fun t => t.geo.orientation = .ceiling && t.ssc.effective = .ceiling &&
        t.geo.lastHanded = some ⟨quadOf inset, 251, false, true⟩) = true := by
  decide +kernel

/-- R91: WARP_MODE_SET BYPASS hands an input with BYPASS set. -/
theorem test_warp_mode_set :
    gives (.warpModeSet .main 1 1) installed (fun t => t.geo.lastHanded.map (fun x => x.bypass) = some true) = true := by
  decide +kernel

/-- R111: WARP_RESEND before any warp is STATE. -/
theorem test_warp_resend : answered (.warpResend .main 1) rest .state = true := by decide +kernel

/-- R113, R127, R141, R155, R164: the reads are answered OK. -/
theorem test_geometry_get : answered (.geometryGet .main 1) rest .ok = true := by decide +kernel
theorem test_sensor_get : answered (.sensorGet .main 1) rest .ok = true := by decide +kernel
theorem test_fan_get : answered (.fanGet .main 1) rest .ok = true := by decide +kernel
theorem test_thermal_get : answered (.thermalGet .main 1) rest .ok = true := by decide +kernel
theorem test_comp_get : answered (.compGet .main 1) rest .ok = true := by decide +kernel

/-- R159's table, in its order, counted from 0 (R171). -/
theorem test_comp_get_hold_codes :
    [Hold.disabled, .noBase, .axis, .recalled, .regime, .sensor, .deadband, .rate].map holdCode = List.range 8 := by
  decide

/-- A warp of the identity, for the link's tests. -/
def plain (seq : Byte) : Warp := identityWarp seq false

/-- R108: an acknowledge in POSTED puts the sent warp in effect; with none posted it is stray. -/
theorem test_warp_acknowledge :
    gives .warpAcknowledge { rest with wrp := { rest.wrp with link := .posted, sent := some (plain 3), ackTimer := some 120 } }
      (fun t => t.wrp.link = .idle && t.wrp.inEffect = some (plain 3) && t.wrp.ackTimer = none) = true := by
  decide +kernel

theorem test_warp_acknowledge_stray : gives .warpAcknowledge rest (fun t => t.wrp.stray = 1) = true := by decide +kernel

/-- R110: the timeout leaves the link STALLED and raises the stall counter. -/
theorem test_acknowledge_timeout :
    gives .acknowledgeTimeout
      { rest with wrp := { rest.wrp with link := .posted, sent := some (plain 3), ackTimer := some 120 } }
      (fun t => t.wrp.link = .stalled && t.wrp.stall = 1 && t.now = 120) = true := by
  decide +kernel

/-! ### Fans, thermal, focus, tables, budget (8.9, 8.10, 9.8) -/

/-- A curve whose temperatures rise from `t` in steps of 10 degrees. -/
def wireAt (t : Half) : CurveWire :=
  ⟨⟨t, 200⟩, ⟨t + 100, 300⟩, ⟨t + 200, 400⟩, ⟨t + 300, 500⟩, ⟨t + 400, 2000⟩⟩

/-- R140: a duty above 1000 is clamped, and the reply says so. -/
theorem test_fan_config_set :
    gives (.fanConfigSet .service 1 1 (wireAt 200) (wireAt 250) 900) rest
      (fun t => t.fan.curves.fan1.floor.p5 = ⟨600, 1000⟩ && t.fan.curves.fan1.ceiling.p1 = ⟨250, 200⟩ &&
        t.fan.lightFF = 200 && flagsOf (t.port .service) = some ⟨true, false, false, false⟩) = true := by
  decide +kernel

/-- R140: temperatures that do not rise are RANGE. -/
theorem test_fan_config_set_range :
    answeredS (.fanConfigSet .service 1 1 ⟨⟨5, 0⟩, ⟨5, 0⟩, ⟨6, 0⟩, ⟨7, 0⟩, ⟨8, 0⟩⟩ (wireAt 0) 0) rest .range = true := by
  decide +kernel

/-- R139: FAN_CLEAR of ALL clears every latch. -/
theorem test_fan_clear :
    gives (.fanClear .main 1 3) (rest.setFan .fan2 { rest.fanRec .fan2 with fanFault := true, lowCount := 3 })
      (fun t => !(t.fanRec .fan2).fanFault && (t.fanRec .fan2).lowCount = 0) = true := by
  decide +kernel

/-- 8.9 at 6.4 s: QUIET_SET CINEMA lowers FAN0 from 650 to 550, its entry to 358. -/
theorem test_quiet_set :
    gives (.quietSet .main 1 0 0)
      (let s := fansOn rest
       { s.setFan .fan0 { s.fanRec .fan0 with applied := 650, demand := 650, cappedDuty := 650 } with
         rlm := { s.rlm with fans := ⟨423, 75, 88⟩ } })
      (fun t => (t.fanRec .fan0).applied = 550 && (t.fanRec .fan0).capped && t.rlm.fans = ⟨358, 75, 88⟩) = true := by
  decide +kernel

/-- R154: WARN 600, HIGH 650, CRIT 801 has its CRIT more than 200 above WARN. -/
theorem test_thermal_limit_set :
    answeredS (.thermalLimitSet .service 1 ⟨PerThermo.all ⟨600, 650, 801⟩, 30⟩) rest .range = true := by decide +kernel
theorem test_thermal_limit_set_taken :
    gives (.thermalLimitSet .service 1 ⟨PerThermo.all ⟨600, 650, 800⟩, 150⟩) rest
      (fun t => t.ths.limits = PerThermo.all ⟨600, 650, 800⟩ && t.ths.hyst = 100 &&
        flagsOf (t.port .service) = some ⟨true, false, false, false⟩) = true := by
  decide +kernel

/-- R152: a demand of 1,500 is clamped to 1,000 and LSEN is asserted. -/
theorem test_light_demand_set :
    gives (.lightDemandSet .main 1 1500 1) rest
      (fun t => t.ths.lightDemand = 1000 && t.ths.lsen && flagsOf (t.port .main) = some ⟨true, false, false, false⟩) =
      true := by
  decide +kernel

/-- R152: enable in SHUTDOWN is refused with THERMAL. -/
theorem test_light_demand_set_shutdown :
    answered (.lightDemandSet .main 1 500 1) (inRegime .shutdown 300 rest) .thermal = true := by decide +kernel

/-- R149: in SHUTDOWN with every sensor cool the regime becomes the raw level; with a hot sensor it is STATE. -/
theorem test_shutdown_clear :
    gives (.shutdownClear .main 1) (inRegime .shutdown 200 rest) (fun t => t.ths.regime = .quiet && !t.ths.lsen) = true := by
  decide +kernel
theorem test_shutdown_clear_hot :
    answered (.shutdownClear .main 1) (inRegime .shutdown 900 rest) .state = true := by decide +kernel

/-- R163: from MAIN the deadband stays and the reply is MASKED. -/
theorem test_comp_set :
    gives (.compSet .main 1 0 50) rest
      (fun t => !t.fcp.enabled && t.fcp.deadband = 8 && flagsOf (t.port .main) = some ⟨false, true, false, false⟩) = true := by
  decide +kernel

/-- R177: TILT_ZERO (table 1) of −12. -/
theorem test_table_set :
    gives (.tableSet .service 1 1 [-12]) rest
      (fun t => t.ssc.tiltZero = -12 && resultOf (t.port .service) = some .ok) = true := by
  decide +kernel

/-- R177: a first byte that names no table is RANGE. -/
theorem test_table_set_range : answeredS (.tableSet .service 1 0x20 []) rest .range = true := by decide +kernel
theorem test_table_get : answered (.tableGet .main 1 0x20) rest .range = true := by decide +kernel

/-- R49: a budget below the sum is STATE; 500 is clamped to 1,000. -/
theorem test_budget_set :
    gives (.budgetSet .service 1 500) rest
      (fun t => t.rlm.budget = 1000 && flagsOf (t.port .service) = some ⟨true, false, false, false⟩) = true := by
  decide +kernel
theorem test_budget_set_state :
    answeredS (.budgetSet .service 1 1000) { rest with rlm := { rest.rlm with fans := ⟨650, 300, 350⟩ } } .state = true := by
  decide +kernel

/-- R181: SETTINGS_SAVE begins a write of what is live. -/
theorem test_settings_save :
    gives (.settingsSave .main 1) rest (fun t => t.sto.write = some (.save .main (captureParts rest))) = true := by
  decide +kernel

/-- R182: with an axis MOVING, SETTINGS_DEFAULT is BUSY; at rest from SERVICE the budget is 2,400 again. -/
theorem test_settings_default_busy : answered (.settingsDefault .main 1) cruising .busy = true := by decide +kernel
theorem test_settings_default :
    gives (.settingsDefault .service 1) { rest with rlm := { rest.rlm with budget := 3000 } }
      (fun t => t.rlm.budget = 2400 && resultOf (t.port .service) = some .ok) = true := by
  decide +kernel

/-- R68: the end of a preset write fills the slot and answers OK. -/
theorem test_preset_write_end :
    gives .presetWriteEnd
      { rest.setPort .main { rest.port .main with serving := some ⟨⟨17, .presetStore 3 0 0 []⟩, none⟩ } with
        sto := { rest.sto with write := some (.preset .main 3 scope) } }
      (fun t => t.lmm.presets.getD 3 emptyPreset = scope && t.sto.image.presets.getD 3 emptyPreset = scope &&
        resultOf (t.port .main) = some .ok) = true := by
  decide +kernel

/-- R181: the end of a settings write stores the captured parts. -/
theorem test_settings_write_end :
    gives .settingsWriteEnd
      { rest.setPort .main { rest.port .main with serving := some ⟨⟨17, .settingsSave⟩, none⟩ } with
        sto := { rest.sto with write := some (.save .main { defaultParts with autoHome := false }) } }
      (fun t => !t.sto.image.parts.autoHome && t.sto.write = none && resultOf (t.port .main) = some .ok) = true := by
  decide +kernel

/-! ### Resets and start-up (12.3) -/

/-- R180: the CRC-16 of a whole image passes, and the image that a cut-short write leaves fails. -/
theorem test_image_check : builtImage.good = true ∧ (spoilImage builtImage).good = false :=
  ⟨sealImage_good _ _, spoilImage_good _⟩

/-- R36, R128, R183: after power-on reset the window is open for 30 ms, and the three fans have asked for their rated
currents in order. -/
theorem test_power_on_reset :
    gives .powerOnReset known
      (fun t => t.drv.window = some 30 && t.rlm.queue.map (fun q => (q.requester, q.need)) =
          [(.fan .fan0, 650), (.fan .fan1, 300), (.fan .fan2, 350)] &&
        (t.axis .zom).position = 0 && t.wrp.link = .posted && t.start.kind = .powerOn) = true := by
  have h0 : known.sto.write = none := rfl
  have h1 : readParts known.sto.image = defaultParts := readParts_sealImage _ _
  have h2 : readPresets known.sto.image = emptyPresets := readPresets_sealImage _ _
  have h3 : known.sto.image.good = true := sealImage_good _ _
  simp only [gives, exec, execPowerOnReset, powerReset, powerRecords, h0, h1, h2, h3, Option.isSome_none,
    Bool.false_eq_true, if_false]
  decide +kernel

/-- R180, R181: a reset by the pin that interrupts a store write loads the factory parts and reports it. -/
theorem test_pin_reset :
    gives .pinReset
      { known with
        rlm := { known.rlm with budget := 3000 }
        sto := { known.sto with write := some (.save .main defaultParts) } }
      (fun t => t.start.kind = .pin && t.now = 0 && t.sto.defaulted && t.rlm.budget = 2400) = true := by
  have h1 : readParts (spoilImage builtImage) = defaultParts := readParts_bad (spoilImage_good _)
  have h2 : readPresets (spoilImage builtImage) = emptyPresets := readPresets_bad (spoilImage_good _)
  have h3 : (spoilImage builtImage).good = false := spoilImage_good _
  have h4 : known.sto.image = builtImage := rfl
  simp only [gives, exec, execPinReset, powerReset, powerRecords, h1, h2, h3, h4, Option.isSome_some, if_true]
  decide +kernel

/-- R185: a soft reset parks the axes and leaves the fans running. -/
theorem test_soft_reset :
    gives .softReset (fansOn cruising)
      (fun t => (t.axis .zom).state = .parked && t.rlm.fans = ⟨260, 75, 88⟩ && (t.fanRec .fan0).applied = 400 &&
        t.start.kind = .soft) = true := by
  have h0 : softHeld (fansOn cruising) = false := rfl
  have h1 : readParts (fansOn cruising).sto.image = defaultParts := readParts_sealImage _ _
  have h2 : readPresets (fansOn cruising).sto.image = emptyPresets := readPresets_sealImage _ _
  have h3 : (fansOn cruising).sto.image.good = true := sealImage_good _ _
  simp only [gives, exec, execSoftReset, softReset, softRecords, h0, h1, h2, h3, Bool.false_eq_true, if_false]
  decide +kernel

/-- A published set in which every channel stands OK at 300. -/
def calmSet : PubSet := ⟨PerSensor.all ⟨.ok, some 300⟩, some 0⟩

/-- R184: with the window closed and a set published, ZOM is homed first. -/
theorem test_start_up_home :
    gives .startUpHome
      { rest with
        start := ⟨.powerOn, .homing [.zom, .foc, .hsh, .vsh] none, true⟩
        ssc := { rest.ssc with published := some calmSet } }
      (fun t => t.start.stage = .homing [.foc, .hsh, .vsh] (some .zom) && (t.axis .zom).state = .homing &&
        (t.axis .zom).phase = .search) = true := by
  decide +kernel

/-- R184: the power-on slot is EMPTY; READY carries the refusal. -/
theorem test_start_up_recall :
    gives .startUpRecall
      { rest with start := ⟨.powerOn, .askRecall, true⟩, sto := { rest.sto with powerOnSlot := some 4 } }
      (fun t => t.start.stage = .done &&
        (t.port .main).transmitter =
          some (.notice (.ready .powerOn (PerAxis.all false) false (.refused .empty)))) = true := by
  decide +kernel

/-! ### The rail (3.9, 2.10) -/

/-- 2.10 at G + 20: BRAKE is granted, CH8 at HIT 900 for the HIT time. -/
theorem test_grant_spacing_expiry :
    gives .grantSpacingExpiry
      { shiftOn (fansOn known) with
        rlm := { (fansOn known).rlm with
          axes := ⟨300, 1200, 0, 0⟩, budget := 3000, queue := [⟨.brake, .brake, 900, false, 1, 0⟩], grants := [0] } }
      (fun t => t.now = 20 && t.brk.state = .releasing && t.brk.timer = some 80 && t.rlm.sum = 2823 &&
        (t.chan .ch8).level = some 900) = true := by
  decide +kernel

/-- R58, 3.8: HOLDING ZOM and FOC are shed for a FAN head that does not fit. -/
theorem test_fan_first_shedding :
    gives .grantSpacingExpiry
      (let s := withAxis .zom (fun r => { r with state := .holding }) (withAxis .foc (fun r => { r with state := .holding }) rest)
       { s with rlm := { s.rlm with
          axes := ⟨300, 500, 200, 160⟩, fans := ⟨0, 75, 0⟩, budget := 1200
          queue := [⟨.fan .fan2, .fan, 350, false, 1, 0⟩] } })
      (fun t => (t.axis .zom).state = .parked && (t.axis .foc).state = .parked) = true := by
  decide +kernel

/-- 3.9 at 2,010: FOC has waited 2,000 ms; its start is withdrawn and FOC stays PARKED. -/
theorem test_queue_timeout :
    gives (.queueTimeout .foc)
      (let s := withAxis .foc (fun r => { r with state := .waitStart, pendingTarget := some 50, origin := .comp }) (shut known)
       { s with rlm := { s.rlm with queue := [⟨.axis .foc, .comp, 500, false, 0, 10⟩] } })
      (fun t => t.now = 2010 && (t.axis .foc).state = .parked && t.rlm.queue = [] &&
        (t.port .main).transmitter = some (.notice (.motionDone .foc .comp .noBudget 0))) = true := by
  decide +kernel

/-! ### Motion (1.14) -/

/-- 1.14 at G + 250: cruise speed is reached 400 µsteps from rest. -/
theorem test_cruise_reached :
    gives (.cruiseReached .zom)
      (withAxis .zom (fun r => { r with position := 10000, phase := .accel, profile := .accel, speed := 0 }) cruising)
      (fun t => (t.axis .zom).position = 10400 && (t.axis .zom).phase = .cruise && (t.axis .zom).speed = 3200000) = true := by
  decide +kernel

/-- 1.14 at G + 2,162.5: 400 µsteps from the turn point 11,880 on the NEG leg. -/
theorem test_decel_point_reached :
    gives (.decelPointReached .zom)
      (withAxis .zom (fun r => { r with
        position := 13000, target := 12000, turnPoint := 11880, dir := .neg, leg := .overshoot }) cruising)
      (fun t => (t.axis .zom).position = 12280 && (t.axis .zom).phase = .decel) = true := by
  decide +kernel

/-- 1.14 at G + 1,500: at rest on 14,000, the leg turns toward the overshoot point 11,880. -/
theorem test_leg_at_rest :
    gives (.legAtRest .zom)
      (withAxis .zom (fun r => { r with
        position := 13900, target := 12000, turnPoint := 14000, leg := .reversal, profile := .decel, phase := .decel }) cruising)
      (fun t => (t.axis .zom).position = 14000 && (t.axis .zom).turnPoint = 11880 && (t.axis .zom).dir = .neg) = true := by
  decide +kernel

/-- 1.14 at G + 2,412.5: at rest on the overshoot point, the TAKEUP leg runs POS to 12,000. -/
theorem test_leg_at_rest_takeup :
    gives (.legAtRest .zom)
      (withAxis .zom (fun r => { r with
        position := 11900, target := 12000, turnPoint := 11880, dir := .neg, leg := .overshoot, profile := .decel }) cruising)
      (fun t => (t.axis .zom).position = 11880 && (t.axis .zom).phase = .takeup && (t.axis .zom).turnPoint = 12000 &&
        (t.axis .zom).dir = .pos) = true := by
  decide +kernel

/-- 1.14 at G + 2,725: PARKED, reservation 0, one MOTION_DONE (ZOM, USER, DONE, 12,000). -/
theorem test_settle_expiry :
    gives (.settleExpiry .zom)
      (let s := withAxis .zom (fun r => { r with
        state := .settling, settleMove := true, settleEnd := 2725, position := 12000 }) known
       { s with rlm := { s.rlm with axes := ⟨0, 0, 600, 0⟩ } })
      (fun t => t.now = 2725 && (t.axis .zom).state = .parked && t.rlm.axes.zom = 0 &&
        (t.port .main).transmitter = some (.notice (.motionDone .zom .user .done 12000))) = true := by
  decide +kernel

/-- R18, R19: the fourth low indicator in CRUISE is a stall. -/
theorem test_load_indicator :
    gives (.loadIndicator .zom 0) (withAxis .zom (fun r => { r with lowLoad := 3 }) cruising)
      (fun t => (t.axis .zom).state = .faulted && (t.axis .zom).faultCause = some .stall && !(t.axis .zom).referenced) =
      true := by
  decide +kernel

/-- ZOM in the search of a home, POS, at SLOW. -/
def searching : State :=
  withAxis .zom (fun r => { r with
    state := .homing, referenced := false, origin := .home, phase := .search, position := -500, target := 0
    turnPoint := 39100, dir := .pos, speedClass := .slow, speed := 800000, profile := .cruise, leg := .search }) known

/-- R17: the edge sets the counter to the reference position 0; SLOW stops 25 µsteps beyond it. -/
theorem test_home_sensor_edge :
    gives (.homeSensorEdge .zom false) searching
      (fun t => (t.axis .zom).position = 0 && (t.axis .zom).turnPoint = 25 && (t.axis .zom).leg = .overrun) = true := by
  decide +kernel

/-- R17: a search that meets no edge ends toward HOME_FAIL. -/
theorem test_home_search_limit :
    gives (.homeSearchLimit .zom) searching
      (fun t => (t.axis .zom).endResult = some .homeFail && (t.axis .zom).leg = .homeFail) = true := by
  decide +kernel

/-! ### Drive channels and the brake (2.10) -/

/-- R29: the check of CH4 expires: OPEN_LOAD latched, ZOM FAULTED. -/
theorem test_open_load_check_expiry :
    gives (.openLoadCheckExpiry .ch4)
      (cruising.setChan .ch4 { cruising.chan .ch4 with level := some 300, check := some 5 })
      (fun t => t.now = 5 && (t.chan .ch4).openLoad && (t.axis .zom).faultCause = some .openLoad) = true := by
  decide +kernel

/-- 2.10: 225 mA passes the check of CH8 at 900 mA; 224 mA does not. -/
theorem test_open_load_check_pass :
    gives (.openLoadCheckPass .ch8 225) (rest.setChan .ch8 { rest.chan .ch8 with level := some 900, check := some 25 })
      (fun t => (t.chan .ch8).check = none && (t.chan .ch8).sensed = 225) = true := by
  decide +kernel
theorem test_open_load_check_stays :
    gives (.openLoadCheckPass .ch8 224) (rest.setChan .ch8 { rest.chan .ch8 with level := some 900, check := some 25 })
      (fun t => (t.chan .ch8).check = some 25) = true := by
  decide +kernel

/-- R30: 1,401 mA on a driven channel is an overcurrent, 1,400 mA is not. -/
theorem test_overcurrent_detected :
    gives (.overcurrentDetected .ch4 1401) (cruising.setChan .ch4 { cruising.chan .ch4 with level := some 300 })
      (fun t => (t.chan .ch4).overcurrent && (t.chan .ch4).level = none && (t.axis .zom).state = .faulted) = true := by
  decide +kernel
theorem test_overcurrent_not :
    gives (.overcurrentDetected .ch4 1400) (cruising.setChan .ch4 { cruising.chan .ch4 with level := some 300 })
      (fun t => !(t.chan .ch4).overcurrent && (t.axis .zom).state = .moving) = true := by
  decide +kernel

/-- The brake RELEASING at HIT 900 until 80, as in 2.10. -/
def releasing : State :=
  { rest.setChan .ch8 { rest.chan .ch8 with level := some 900 } with
    brk := { rest.brk with state := .releasing, timer := some 80 }, rlm := { rest.rlm with brake := 900 } }

/-- R41: 855 mA is within 5 % of 900. -/
theorem test_brake_hit_reached : gives (.brakeHitReached 855) releasing (fun t => t.brk.hitReached) = true := by
  decide +kernel

/-- 2.10: a fall from 640 mA to 520 mA is a dip. -/
theorem test_brake_dip_seen : gives (.brakeDipSeen 640 520) releasing (fun t => t.brk.dipSeen) = true := by
  decide +kernel
theorem test_brake_dip_short : gives (.brakeDipSeen 640 528) releasing (fun t => !t.brk.dipSeen) = true := by
  decide +kernel

/-- 2.10 at G + 80: with both seen the brake is RELEASED at HOLD 300. -/
theorem test_hit_time_expiry :
    gives .hitTimeExpiry { releasing with brk := { releasing.brk with hitReached := true, dipSeen := true } }
      (fun t => t.now = 80 && t.brk.state = .released && (t.chan .ch8).level = some 300 && t.rlm.brake = 300) = true := by
  decide +kernel

/-- R41, R44: without HIT the brake is FAULTED. -/
theorem test_hit_time_expiry_no_hit :
    gives .hitTimeExpiry releasing
      (fun t => t.brk.state = .faulted && t.brk.cause = some .hitNotReached && (t.chan .ch8).hitNotReached) = true := by
  decide +kernel

/-- 3.9 at 2,745: the clamped report parks both shift axes. -/
theorem test_engage_time_expiry :
    gives .engageTimeExpiry
      (let s := withAxis .hsh (fun r => { r with state := .holding }) (withAxis .vsh (fun r => { r with state := .holding }) rest)
       { s with brk := { s.brk with state := .engaging, timer := some 40 }, rlm := { s.rlm with axes := ⟨300, 500, 0, 0⟩ } })
      (fun t => t.brk.state = .engaged && (t.axis .hsh).state = .parked && (t.axis .vsh).state = .parked && t.rlm.sum = 0) =
      true := by
  decide +kernel

/-- R44: the end of clamp pending. -/
theorem test_clamp_pending_expiry :
    gives .clampPendingExpiry
      { rest with brk := { rest.brk with state := .faulted, clampPending := true, timer := some 40 } }
      (fun t => t.now = 40 && !t.brk.clampPending && t.brk.state = .faulted) = true := by
  decide +kernel

/-- R34: RAIL_LOW faults the energised ZOM and leaves the PARKED FOC. -/
theorem test_rail_low_begin :
    gives .railLowBegin (cruising.setChan .ch4 { cruising.chan .ch4 with level := some 300 })
      (fun t => t.drv.railLow && (t.axis .zom).faultCause = some .railLow && (t.axis .foc).state = .parked &&
        (t.axis .foc).referenced && (t.chan .ch4).level = none) = true := by
  decide +kernel

theorem test_rail_low_end :
    gives .railLowEnd { rest with drv := { rest.drv with railLow := true } } (fun t => !t.drv.railLow) = true := by
  decide +kernel

/-- R36: the run falls due 30 minutes after the last one, and the window opens. -/
theorem test_calibration_due_timer :
    gives .calibrationDueTimer rest (fun t => t.drv.due && t.now = 1800000 && t.drv.window = some 1800030) = true := by
  decide +kernel

theorem test_calibration_window_open :
    gives .calibrationWindowOpen { rest with drv := { rest.drv with due := true } } (fun t => t.drv.window = some 30) =
      true := by
  decide +kernel

/-- R37: a zero reading of 100 is stored as 63 and latches CALIB. -/
theorem test_calibration_window_close :
    gives (.calibrationWindowClose ⟨0, 0, 0, 0, 100, 0, 0, 0, -48⟩) (shut rest)
      (fun t => t.drv.window = none && (t.chan .ch4).offset = 63 && (t.chan .ch4).calib && !(t.chan .ch8).calib &&
        (t.chan .ch8).offset = -48 && (t.axis .zom).faultCause = some .calib) = true := by
  decide +kernel

/-! ### Scans, periods, fans (7.9, 8.9, 8.10) -/

/-- 7.9: LNS code 2200 is 34.1 degrees; the first sample after a reset fills the line. A code of 100 on AIN is −24.5. -/
theorem test_scan_end :
    gives (.scanEnd ⟨⟨2200, 2200, 2200, 100, 2200, 2200⟩, 2300, 3120, 1200, 3000⟩) rest
      (fun t => t.ssc.chans.thermo.lns.smoothed = some 341 && t.ssc.chans.thermo.ain.smoothed = some (-245) &&
        t.ssc.chans.tlx.smoothed = some 142 && t.ssc.chans.rail.smoothed = some 12000 && t.now = 100 &&
        t.ssc.nextScan = 200) = true := by
  decide +kernel

/-- 7.9: a first code of 4070 leaves LNS with no value and flag OPEN. -/
theorem test_scan_end_open :
    gives (.scanEnd ⟨⟨2200, 2200, 4070, 2200, 2200, 2200⟩, 2300, 3120, 1200, 3000⟩) rest
      (fun t => t.ssc.chans.thermo.lns.smoothed = none && t.ssc.chans.thermo.lns.flag = .opened &&
        (t.port .main).transmitter = some (.notice (.fault (.sensor 2 .opened)))) = true := by
  decide +kernel

/-- A published value with flag OK. -/
def okAt (z : Int) : Pub := ⟨.ok, some z⟩

/-- The published set of 8.9: LSB 600, IMG 500, AIN 280, PSU 290, AEX 480. -/
def steadySet : PubSet :=
  ⟨⟨⟨okAt 600, okAt 500, okAt 300, okAt 280, okAt 480, okAt 290⟩, okAt 0, okAt 0, okAt 0, okAt 12000⟩, some 0⟩

/-- The starting state of 8.9: light demand 500, budget 2,550, 1,800 mA beside the fans. -/
def steady : State :=
  let s := fansOn rest
  { s with
    ssc := { s.ssc with published := some steadySet }
    ths := { s.ths with lightDemand := 500, lightEnable := true, lsen := true }
    fan := { s.fan with
      recs := ⟨s.fan.recs.fan0, { s.fan.recs.fan1 with applied := 330 }, { s.fan.recs.fan2 with applied := 700 }⟩ }
    rlm := { s.rlm with axes := ⟨300, 1200, 0, 0⟩, brake := 300, fans := ⟨260, 99, 245⟩, budget := 2550 } }

/-- 8.9 at 1 s: the demands are 650, 330 and 700; FAN0 slews to 450 with entry 293, and the sum is 2,437. -/
theorem test_control_period :
    gives .controlPeriod steady
      (fun t => (t.fanRec .fan0).demand = 650 && (t.fanRec .fan1).demand = 330 && (t.fanRec .fan2).demand = 700 &&
        (t.fanRec .fan0).applied = 450 && t.rlm.fans.fan0 = 293 && t.rlm.sum = 2437) = true := by
  decide +kernel

/-- 8.9 at 5 s: 650 is asked and 624 allowed; the sum becomes exactly 2,550. -/
theorem test_control_period_rail_limited :
    gives .controlPeriod
      { steady.setFan .fan0 { steady.fanRec .fan0 with applied := 600 } with
        rlm := { steady.rlm with fans := ⟨390, 99, 245⟩ } }
      (fun t => (t.fanRec .fan0).applied = 624 && (t.fanRec .fan0).railLimited && t.rlm.sum = 2550) = true := by
  decide +kernel

/-- R138: a tach pulse counts on its fan. -/
theorem test_tach_pulse :
    gives (.tachPulse .fan1) rest (fun t => (t.fanRec .fan1).pulses = 1 && (t.fanRec .fan0).pulses = 0) = true := by
  decide +kernel

/-- R129, R63: the end of a spin-up at duty 300 lowers FAN0's entry from 650 to 195; its output is the applied duty. -/
theorem test_spinup_expiry :
    gives (.spinupExpiry .fan0)
      { rest.setFan .fan0 { rest.fanRec .fan0 with state := .spinup, spinTimer := some 2000 } with
        rlm := { rest.rlm with fans := ⟨650, 0, 0⟩ } }
      (fun t => (t.fanRec .fan0).state = .running && t.rlm.fans.fan0 = 195 && t.now = 2000 && t.fpwm = ⟨300, 0, 0⟩) = true := by
  decide +kernel

/-- R41, R43: the end of a spin-up examines the queue; with a shift pair off by then, a BRAKE request is not granted. -/
theorem test_grant_without_pairs :
    gives (.spinupExpiry .fan0)
      { known.setFan .fan0 { known.fanRec .fan0 with state := .spinup, spinTimer := some 2000 } with
        rlm := { known.rlm with fans := ⟨650, 0, 0⟩, queue := [⟨.brake, .brake, 900, false, 1, 0⟩] } }
      (fun t => t.brk.state = .engaged && (t.chan .ch8).level = none && t.rlm.brake = 0 && t.rlm.queue = []) = true := by
  decide +kernel

/-! ### Well-formed commands -/

/-- A label that no frame can carry. -/
theorem test_ill_formed_label :
    Instr.wellFormed (.presetStore .main 1 0 0 0 (List.replicate 246 0x41)) = false := by decide +kernel

/-- More table entries than a frame can carry. -/
theorem test_ill_formed_entries :
    Instr.wellFormed (.tableSet .service 1 0 (List.replicate 124 0)) = false := by decide +kernel

/-- A sensed current above 2,000 mA. -/
theorem test_ill_formed_current : Instr.wellFormed (.overcurrentDetected .ch0 2001) = false := by decide

/-- A zero reading outside the codes. -/
theorem test_ill_formed_zero :
    Instr.wellFormed (.calibrationWindowClose ⟨0, 0, 0, 0, 0, 0, 0, 0, 4096⟩) = false := by decide

/-- A present current above the highest one seen. -/
theorem test_ill_formed_dip : Instr.wellFormed (.brakeDipSeen 500 501) = false := by decide

/-- The longest of each is well formed. -/
theorem test_well_formed :
    Instr.wellFormed (.presetStore .main 1 0 0 0 (List.replicate 245 0x41)) = true ∧
    Instr.wellFormed (.tableSet .service 1 0 (List.replicate 123 0)) = true ∧
    Instr.wellFormed (.overcurrentDetected .ch0 2000) = true ∧ Instr.wellFormed (.brakeDipSeen 500 500) = true := by
  decide +kernel

/-! ### The statements' hypotheses can be met

One theorem for each statement with hypotheses: a state and operands that meet them, for each of its clauses. -/

/-- A claim about every axis, decided axis by axis. -/
def forAxes {p : Axis → Prop} (d : ∀ a, Decidable (p a)) : Decidable (∀ a, p a) :=
  haveI : DecidablePred p := d
  decidable_of_iff (∀ a ∈ allAxes, p a) ⟨fun h a => h a (by cases a <;> decide), fun h a _ => h a⟩

/-- A claim about every channel, decided channel by channel. -/
def forChans {p : Chan → Prop} (d : ∀ c, Decidable (p c)) : Decidable (∀ c, p c) :=
  haveI : DecidablePred p := d
  decidable_of_iff (∀ c ∈ allChans, p c) ⟨fun h c => h c (by cases c <;> decide), fun h c _ => h c⟩

/-- `axisCoils` is decided by the state of the axis. -/
def axisCoilsDec (s : State) (a : Axis) : Decidable (axisCoils s a) := by
  delta axisCoils
  cases (s.axis a).state <;> infer_instance

/-- `latchHeld` is decided by the owner of the channel. -/
def latchHeldDec (s : State) (c : Chan) : Decidable (latchHeld s c) := by
  delta latchHeld
  cases ownerOf c <;> infer_instance

/-- What `requestsWait` asks of one request, decided by its requester. -/
def requestDec (s : State) (q : StartReq) : Decidable (match q.requester with
    | .axis a => (s.axis a).state = .waitStart ∧ (s.axis a).granted = false
    | .brake => s.brk.state = .engaged
    | .fan _ => True) := by
  cases q.requester <;> infer_instance

/-- `requestsWait`, decided. -/
def requestsWaitDec (s : State) : Decidable (requestsWait s) :=
  haveI := requestDec s
  haveI := forAxes (p := fun a => ((s.axis a).granted = true → isShift a = true ∧ (s.axis a).state = .waitStart) ∧
    (a ≠ .foc → (s.axis a).origin ≠ .comp)) fun _ => inferInstance
  inferInstanceAs (Decidable (_ ∧ _))

/-- `CoilsFollowTheStates`, decided. -/
def coilsDec (s : State) : Decidable (CoilsFollowTheStates s) :=
  haveI := forAxes (axisCoilsDec s)
  haveI := forChans (latchHeldDec s)
  haveI := forChans fun c => (inferInstance : Decidable ((s.chan c).level = none))
  haveI := requestsWaitDec s
  inferInstanceAs (Decidable (_ ∧ _))

/-- `axisInTravel`, decided; the target that waits is looked up. -/
def axisInTravelDec (r : AxisRec) : Decidable (axisInTravel r) :=
  haveI : Decidable (∃ t, r.pendingTarget = some t ∧ inTravel r.settings t) :=
    decidable_of_iff (r.pendingTarget.any fun t => inTravel r.settings t)
      (by cases r.pendingTarget <;> simp)
  inferInstanceAs (Decidable (_ ∧ _))

/-- Whether `CoilsFollowTheStates` holds. -/
def coilsFollow (s : State) : Bool := @decide _ (coilsDec s)

theorem coils_of_decide {s : State} (h : coilsFollow s = true) : CoilsFollowTheStates s :=
  @of_decide_eq_true _ (coilsDec s) h

theorem travel_of_decide {r : AxisRec} (h : @decide _ (axisInTravelDec r) = true) : axisInTravel r :=
  @of_decide_eq_true _ (axisInTravelDec r) h

/-- `CapsHeld`, decided fan by fan. -/
def capsDec (s : State) : Decidable (CapsHeld s) :=
  decidable_of_iff (∀ f ∈ allFans, ∀ c ∈ capNow s f, (s.fanRec f).applied ≤ c)
    ⟨fun h f c => h f (by cases f <;> decide) c, fun h f _ c => h f c⟩

theorem caps_of_decide {s : State} (h : @decide _ (capsDec s) = true) : CapsHeld s := @of_decide_eq_true _ (capsDec s) h

/-- MAIN is idle with a command waiting. -/
def queued : State := { rest with pending := [.identGet .main 1] }

theorem test_witness_StepRunsTheFrontCommand : queued.pending = .identGet .main 1 :: [] ∧ rest.pending = [] := ⟨rfl, rfl⟩

/-- A step of `queued` answers a next state. -/
theorem steps : ∃ t, step queued = .next t := ⟨_, rfl⟩

theorem test_witness_RailSumStaysWithinTheBudget :
    (RailSound queued ∧ ∃ t, step queued = .next t) ∧
    RailSound { rest with rlm := { rest.rlm with axes := ⟨600, 600, 600, 600⟩, budget := 2400 } } :=
  ⟨⟨by decide +kernel, steps⟩, by decide +kernel⟩

theorem test_witness_AlertAndLinkAreSettledAfterEveryCommand :
    (∃ t, exec .railLowBegin rest = .next t) ∧ (AlertFormed queued ∧ ∃ t, step queued = .next t) ∧
    LinkSettled queued ∧ WriteServed queued ∧ ∃ t, step queued = .next t :=
  ⟨⟨_, rfl⟩, ⟨by decide +kernel, steps⟩, by decide +kernel, fun _ h => (by cases h), steps⟩

theorem test_witness_QueuesAndStacksKeepTheirBounds :
    OneRequestEach queued ∧ NoticeRoom queued ∧ LensMemoryShape queued ∧ GrantsSpaced queued ∧
    OneRequestEach { rest with rlm := { rest.rlm with
      queue := [⟨.axis .zom, .motor, 600, false, 0, 0⟩, ⟨.axis .foc, .motor, 500, false, 1, 0⟩] } } ∧
    NoticeRoom (rest.setPort .main { rest.port .main with queue := List.replicate 8 (.fault .noRelease) }) ∧
    LensMemoryShape { rest with lmm := { rest.lmm with
      history := List.replicate 8 (snapshot rest .move), discards := 65535 } } ∧
    GrantsSpaced { rest with now := 60, rlm := { rest.rlm with grants := [60, 40, 20, 0] } } ∧
    ∃ t, step queued = .next t :=
  by refine ⟨?_, ?_, ?_, ?_, ?_, ?_, ?_, ?_, steps⟩ <;> decide +kernel

theorem geometry_of_rest : GeometryAccepted queued :=
  ⟨by decide +kernel, by decide +kernel, by decide +kernel, fun _ h => (by cases h)⟩

theorem test_witness_LiveGeometryStaysAccepted : GeometryAccepted queued ∧ ∃ t, step queued = .next t :=
  ⟨geometry_of_rest, steps⟩

/-- A warp posted and one pending. -/
def posted : State :=
  { rest with wrp := { rest.wrp with
      link := .posted, last := some (plain 4), sent := some (plain 3), pending := some (plain 4), ackTimer := some 120 } }

theorem test_witness_WarpLinkKeepsItsShape :
    WarpLinkShape queued ∧ WarpLinkShape posted ∧ ∃ t, step queued = .next t :=
  ⟨by decide +kernel, by decide +kernel, steps⟩

theorem test_witness_ThermalSupervisorStaysSound :
    LightGuarded queued ∧ LimitFormed queued ∧ LimitsOrdered queued ∧ CapsHeld queued ∧
    CapsHeld (rest.setFan .fan0 { rest.fanRec .fan0 with applied := 750 }) ∧ ∃ t, step queued = .next t :=
  ⟨by decide +kernel, by decide +kernel, ⟨by decide +kernel, by decide +kernel, fun _ h => (by cases h)⟩,
   caps_of_decide (by decide +kernel), caps_of_decide (by decide +kernel), steps⟩

theorem test_witness_PayloadOfEveryRequestReadsBack :
    inCodeTable .identGet = true ∧ inCodeTable (.axisMove 255 (-1) 9) = true ∧
    inCodeTable (.presetStore 11 15 1 (List.replicate 16 0x41)) = true ∧ inCodeTable (.tableSet 1 [-12]) = true := by
  decide +kernel

theorem test_witness_FrameReceivedActsAsItsRequest :
    requestOf (.axisMove .main 18 2 20000 1) = some (.main, 18, .axisMove 2 20000 1) ∧
    inCodeTable (.axisMove 2 20000 1) = true ∧ (rest.port .main).receiver = .hunt := by
  decide +kernel

/-- MAIN in a frame. -/
def inFrame : State := rest.setPort .main { rest.port .main with receiver := .inFrame [9, 0x10] }

theorem test_witness_ReceiverTakesFrames :
    (LinkSettled inFrame ∧ (inFrame.port .main).receiver = .inFrame [9, 0x10]) ∧
    (LinkSettled rest ∧ (rest.port .main).receiver = .hunt) ∧ ((0xD4 : Byte) ≠ 0xD5) ∧
    ((1 : Byte).toNat < 2 ∨ 250 < (1 : Byte).toNat) ∧ ((251 : Byte).toNat < 2 ∨ 250 < (251 : Byte).toNat) ∧
    (2 ≤ (2 : Byte).toNat ∧ (2 : Byte).toNat ≤ 250 ∧ ([1, 7] : List Byte).length = (2 : Byte).toNat ∧
      ([0, 0] : List Byte) ≠ crcBytes [2, 1, 7]) ∧
    (2 ≤ (250 : Byte).toNat ∧ (250 : Byte).toNat ≤ 250 ∧ (List.replicate 250 (0 : Byte)).length = (250 : Byte).toNat) := by
  decide +kernel

/-- Whatever the bytes, some check does not match. -/
theorem test_witness_a_check_that_fails (l : List Byte) : ∃ c0 c1 : Byte, [c0, c1] ≠ crcBytes l := by
  by_cases h : [0, 0] = crcBytes l
  · exact ⟨1, 0, by rw [← h]; decide⟩
  · exact ⟨0, 0, h⟩

/-- MAIN serves a PRESET_STORE whose write runs; SERVICE is idle. -/
def serving : State :=
  { rest.setPort .main { rest.port .main with serving := some ⟨⟨17, .presetStore 3 0 0 []⟩, none⟩ } with
    sto := { rest.sto with write := some (.preset .main 3 scope) } }

/-- As `serving`, with a frame in the waiting slot. -/
def serving2 : State := serving.setPort .main { serving.port .main with waiting := some ⟨18, .identGet⟩ }

theorem test_witness_ReceiverAndSlotsTakeFrames :
    (requestOf (.statusGet .main 19) = some (.main, 19, .statusGet) ∧ inCodeTable .statusGet = true) ∧
    (LinkSettled serving ∧ (serving.port .main).serving = some ⟨⟨17, .presetStore 3 0 0 []⟩, none⟩ ∧
      (serving.port .main).waiting = none) ∧
    (LinkSettled serving2 ∧ (serving2.port .main).serving = some ⟨⟨17, .presetStore 3 0 0 []⟩, none⟩ ∧
      (serving2.port .main).waiting = some ⟨18, .identGet⟩) := by
  decide +kernel

/-- MAIN sends `f`, with a reply ready or not and notices in its queue, and a soft reset arranged or not. -/
def sending (f : OutFrame) (r : Option Reply) (q : List Notice) (x : Option Arranged) : State :=
  let s := rest.setPort .main { rest.port .main with transmitter := some f, replyReady := r, queue := q }
  { s with lnk := { s.lnk with arranged := x } }

/-- The reply to RESET. -/
def resetReply : Reply := ⟨0x86, 1, .ok, noFlags, []⟩

theorem test_witness_TransmitterTakesReplyThenOldestNotice :
    (let s := sending (.notice (.fault .noRelease)) (some resetReply) [] (some ⟨.main, false, 1⟩)
     LinkSettled s ∧ (s.port .main).transmitter = some (.notice (.fault .noRelease)) ∧ (s.port .main).serving = none ∧
      (s.port .main).replyReady = some resetReply ∧ s.lnk.arranged = some ⟨.main, false, 0 + 1⟩) ∧
    (let s := sending (.reply resetReply) none [.fault .noRelease] (some ⟨.main, false, 0⟩)
     LinkSettled s ∧ (s.port .main).serving = none ∧ (s.port .main).queue = .fault .noRelease :: [] ∧
      s.lnk.arranged = some ⟨.main, false, 0⟩) ∧
    (let s := sending (.reply resetReply) none [] (some ⟨.service, false, 0⟩)
     LinkSettled s ∧ (s.port .main).queue = [] ∧ s.lnk.arranged = some ⟨.service, false, 0⟩) ∧
    (let s := sending (.reply resetReply) none [] (some ⟨.main, true, 0⟩)
     LinkSettled s ∧ s.lnk.arranged = some ⟨.main, true, 0⟩) ∧
    (let s := sending (.reply resetReply) none [] none
     LinkSettled s ∧ s.lnk.arranged = none) := by
  decide +kernel

/-- MAIN holds a reply in its serving slot behind one that is ready, a frame waiting or not. -/
def replyHeld (w : Option Checked) : State :=
  let s := sending (.notice (.fault .noRelease)) (some resetReply) [] none
  s.setPort .main { s.port .main with serving := some ⟨⟨7, .identGet⟩, some ⟨0x81, 7, .ok, noFlags, []⟩⟩, waiting := w }

theorem test_witness_TransmitterPlacesTheReplyHeld :
    (LinkSettled (replyHeld none) ∧ ((replyHeld none).port .main).serving =
        some ⟨⟨7, .identGet⟩, some ⟨0x81, 7, .ok, noFlags, []⟩⟩ ∧ ((replyHeld none).port .main).waiting = none) ∧
    (let s := replyHeld (some ⟨18, .axisMove 2 20000 1⟩)
     LinkSettled s ∧ (s.port .main).transmitter = some (.notice (.fault .noRelease)) ∧
      (s.port .main).replyReady = some resetReply ∧ (s.port .main).waiting = some ⟨18, .axisMove 2 20000 1⟩ ∧
      requestOf (.axisMove .main 18 2 20000 1) = some (.main, 18, .axisMove 2 20000 1) ∧
      inCodeTable (.axisMove 2 20000 1) = true ∧ s.lnk.arranged = none) ∧
    (let s := serving.setPort .main { serving.port .main with transmitter := some (.notice (.fault .noRelease)) }
     LinkSettled s ∧ writer s = some .main ∧ (s.port .main).serving = some ⟨⟨17, .presetStore 3 0 0 []⟩, none⟩) := by
  decide +kernel

theorem test_witness_ReadingRequestsAnswerAndChangeNothing : LinkReady .main rest ∧ LinkReady .service rest := by
  decide +kernel

theorem test_witness_LinkRequestsSetTheirOwnItem :
    LinkReady .main rest ∧ LinkReady .service rest ∧ rest.lnk.arranged = none := by
  decide +kernel

/-- Every permission closed. -/
def closed : State := { rest with lnk := { rest.lnk with permit := 0 } }

theorem test_witness_MainIsMaskedAndDenied :
    LinkReady .main closed ∧ (tableOf 1 = some .tiltZero ∧ ([-12] : List Half).length = tableSize .tiltZero) ∧
    (axisOf 3 = some .foc ∧ speedOf 2 = some .fast ∧ maskBit closed.lnk.permit (axisCode .foc) = false) ∧
    (maskBit closed.lnk.permit 5 = false ∧ (11 : Byte).toNat < 12 ∧ (List.replicate 16 (0x20 : Byte)).length ≤ 16 ∧
      (∀ c ∈ List.replicate 16 (0x20 : Byte), 32 ≤ c.toNat ∧ c.toNat ≤ 126) ∧ (15 : Byte).toNat < 16) ∧
    (maskBit closed.lnk.permit 4 = false ∧ (3 : Byte).toNat < 4 ∧ keyModeOf 1 = some .auto ∧
      mountOf 2 = some .ceiling ∧ warpModeOf 1 = some .bypass) := by
  decide +kernel

/-- ZOM decelerates toward THERMAL; VSH toward BRAKE_ENGAGED. -/
def endDecided : State :=
  withAxis .zom (fun r => { r with phase := .decel, profile := .decel, leg := .stop, endResult := some .thermal })
    (withAxis .vsh (fun r => { r with
      state := .moving, phase := .decel, profile := .decel, leg := .stop, endResult := some .brakeEngaged }) cruising)

/-- In a regime that closes motion. -/
def hotPart : State := inRegime .emergency 900 known

theorem test_witness_MotionRequestsAreRefusedInOrder :
    LinkReady .service known ∧ axisOf 4 = none ∧ speedOf 3 = none ∧ (axisOf 0 = some .hsh ∧ speedOf 2 = some .fast) ∧
    (LinkReady .service hotPart ∧ hotPart.ths.regime = .emergency) ∧
    (LinkReady .service { known with drv := { known.drv with driverHot := true } }) ∧
    (LinkReady .service searching ∧ (searching.axis .zom).state = .homing) ∧
    (LinkReady .service rest ∧ rest.ths.regime = .quiet ∧ (rest.axis .hsh).state = .parked ∧ rest.drv.driverHot = false ∧
      rest.drv.railLow = false ∧ partnerOf .hsh = some .vsh ∧ rest.brk.state = .engaged ∧
      (rest.axis .vsh).state = .parked ∧ (rest.axis .hsh).referenced = false) ∧
    (LinkReady .service endDecided ∧ endDecided.ths.regime = .quiet ∧ endDecided.drv.driverHot = false ∧
      endDecided.drv.railLow = false ∧ endDecided.brk.state ≠ .faulted ∧ (endDecided.axis .hsh).state ≠ .faulted ∧
      (endDecided.axis .zom).state = .moving ∧ (endDecided.axis .zom).referenced = true ∧
      (endDecided.axis .zom).endResult = some .thermal ∧ (endDecided.axis .vsh).state = .moving ∧
      (endDecided.axis .vsh).referenced = true ∧ (endDecided.axis .vsh).endResult = some .brakeEngaged) :=
  by refine ⟨?_, ?_, ?_, ?_, ?_, ?_, ?_, ?_, ?_⟩ <;> decide +kernel

theorem test_witness_MoveFromRestWaitsForItsGrant :
    LinkReady .main (shut known) ∧ axisOf 2 = some .zom ∧ speedOf 1 = some .normal ∧
    closedTo (shut known) .main (axisCode .zom) = false ∧ ((shut known).axis .zom).state = .parked ∧
    (shut known).drv.window.isSome = true ∧ (shut known).rlm.queue = [] ∧
    motionCheck (shut known) .zom .absolute = none ∧
    zeroLength ((shut known).axis .zom) (clampInt ((shut known).axis .zom).settings.travelMin
      ((shut known).axis .zom).settings.travelMax (36001 : Long).toInt) = false ∧
    motionCheck (shut known) .zom .jog = none ∧
    zeroLength ((shut known).axis .zom) (clampReach ((shut known).axis .zom)
      (((shut known).axis .zom).position + clampInt (-4000) 4000 (-4001 : Long).toInt)) = false := by
  decide +kernel

/-- `known` with a budget that FOC's need just fits. -/
def tightBudget : State := { known with rlm := { known.rlm with budget := 500 } }

theorem test_witness_ZoomAndFocusStartAtTheirGrant :
    LinkReady .main tightBudget ∧ axisOf 3 = some .foc ∧ partnerOf .foc = none ∧ speedOf 2 = some .fast ∧
    closedTo tightBudget .main (axisCode .foc) = false ∧ (tightBudget.axis .foc).state = .parked ∧
    motionCheck tightBudget .foc .absolute = none ∧ tightBudget.drv.window = none ∧ tightBudget.rlm.queue = [] ∧
    spacingAllows tightBudget.now tightBudget.rlm.grants = true ∧
    tightBudget.rlm.sum + (2 * (tightBudget.axis .foc).settings.run - tightBudget.rlm.axes.get .foc) ≤
      tightBudget.rlm.budget ∧
    zeroLength (tightBudget.axis .foc) (clampInt (tightBudget.axis .foc).settings.travelMin
      (tightBudget.axis .foc).settings.travelMax (14000 : Long).toInt) = false ∧
    motionCheck tightBudget .foc .jog = none ∧
    zeroLength (tightBudget.axis .foc) (clampReach (tightBudget.axis .foc)
      ((tightBudget.axis .foc).position + clampInt (-4000) 4000 (4000 : Long).toInt)) = false := by
  decide +kernel

/-- HSH and VSH HOLDING, the brake RELEASED, the window open. -/
def holding : State :=
  let s := withAxis .hsh (fun r => { r with state := .holding }) (withAxis .vsh (fun r => { r with state := .holding }) (shut known))
  { s with brk := { s.brk with state := .released } }

theorem test_witness_HomeFromRestUnreferencesAndWaits :
    LinkReady .service holding ∧ axisOf 0 = some .hsh ∧ closedTo holding .service (axisCode .hsh) = false ∧
    (holding.axis .hsh).state = .holding ∧ motionCheck holding .hsh .home = none ∧
    holding.drv.window.isSome = true ∧ holding.rlm.queue = [] := by
  decide +kernel

theorem test_witness_StopDeceleratesToTheStopPoint :
    LinkReady .main cruising ∧ stopAxes 2 = some [.zom] ∧ stopAxes 0xFF = some allAxes ∧ cruising.rlm.queue = [] ∧
    (∀ a ∈ allAxes, (cruising.axis a).state ≠ .waitStart) ∧ (cruising.axis .zom).state = .moving ∧
    (cruising.axis .zom).endResult = none ∧ cruising.lmm.active = false := by
  decide +kernel

/-- ZOM waits for its grant, at the head of the queue, for the given origin. -/
def zoomWaits (o : Origin) (active : Bool) : State :=
  let s := withAxis .zom (fun r => { r with state := .waitStart, pendingTarget := some 12000, origin := o }) known
  { s with
    rlm := { s.rlm with queue := [⟨.axis .zom, .motor, 600, false, 0, 0⟩] }
    lmm := { s.lmm with active := active, owed := ⟨false, false, active, false⟩ } }

/-- R23: HSH holds and owes its parking to a forced engage whose carriage is clamped, VSH's new start waits; stopped, it
leaves no move to wait for, and HSH is PARKED. -/
theorem test_axis_stop_parks_the_partner :
    gives (.axisStop .main 1 1)
      (withAxis .hsh (fun r => { r with state := .holding, mustPark := true })
        (withAxis .vsh (fun r => { r with state := .waitStart, pendingTarget := some 4000 })
          { shut known with rlm := { known.rlm with queue := [⟨.axis .vsh, .motor, 700, false, 0, 0⟩] } }))
      (fun t => (t.axis .hsh).state = .parked && (t.axis .vsh).state = .parked && t.rlm.queue = []) = true := by
  decide +kernel

theorem test_witness_StopWithdrawsTheStart :
    (let s := zoomWaits .user false
     LinkReady .main s ∧ axisOf 2 = some .zom ∧ partnerOf .zom = none ∧ (s.axis .zom).state = .waitStart ∧
      (s.axis .zom).granted = false ∧ energised s .zom = false ∧
      s.rlm.queue = [⟨.axis .zom, .motor, 600, false, 0, 0⟩] ∧ s.start.stage = .done ∧ s.lmm.active = false ∧
      Hears (.motionDone .zom .user .stopped 10000) (s.port .main)) ∧
    (let s := zoomWaits .recalled true
     LinkReady .main s ∧ (s.axis .zom).origin = .recalled ∧ s.lmm.active = true ∧ s.lmm.owed.get .zom = true) := by
  decide +kernel

/-- As `cruising`, in a recall that owes ZOM. -/
def recalling : State :=
  withAxis .zom (fun r => { r with origin := .recalled })
    { cruising with lmm := { cruising.lmm with active := true, owed := ⟨false, false, true, false⟩ } }

theorem test_witness_StopFailsTheRecall :
    LinkReady .main recalling ∧ recalling.rlm.queue = [] ∧ (recalling.axis .zom).origin = .recalled ∧
    (recalling.axis .zom).state = .moving ∧ recalling.lmm.active = true ∧ recalling.lmm.owed.get .zom = true ∧
    (∀ a ∈ allAxes, (recalling.axis a).state ≠ .waitStart) := by
  decide +kernel

/-- A settings record for ZOM. -/
def zoomWire : AxisConfigWire := ⟨0, 36000, 0, 300, 100, 12800, 40, 0, 120, 1, 100⟩

theorem test_witness_AxisConfigSetStoresTheClampedSettings :
    (axisOf 2 = some .zom ∧ dirOf zoomWire.approach = some .pos ∧ idleOf zoomWire.idle = some .park) ∧
    (LinkReady .service cruising ∧ (cruising.axis .zom).state ≠ .parked ∧ (cruising.axis .zom).state ≠ .faulted) ∧
    (LinkReady .service known ∧ (known.axis .zom).state = .parked ∧ known.rlm.queue = [] ∧
      zoomWire.travelMin.toInt < zoomWire.travelMax.toInt ∧
      ({ zoomWire with travelMax := 0 } : AxisConfigWire).travelMax.toInt ≤ zoomWire.travelMin.toInt) := by
  decide +kernel

/-- ZOM FAULTED with a cause; RAIL_LOW stands or not. -/
def zoomFaulted (c : AxisCause) (low : Bool) : State :=
  withAxis .zom (fun r => { r with state := .faulted, faultCause := some c }) { known with drv := { known.drv with railLow := low } }

theorem test_witness_AxisClearParksAFaultedAxis :
    axisOf 2 = some .zom ∧ axisOf 4 = none ∧ (LinkReady .main known ∧ (known.axis .zom).state ≠ .faulted) ∧
    (LinkReady .main (zoomFaulted .railLow true) ∧ ((zoomFaulted .railLow true).axis .zom).state = .faulted ∧
      ((zoomFaulted .railLow true).axis .zom).faultCause = some .railLow ∧ (zoomFaulted .railLow true).drv.railLow = true) ∧
    (LinkReady .main (zoomFaulted .railLow false) ∧ ((zoomFaulted .railLow false).axis .zom).state = .faulted ∧
      ¬(((zoomFaulted .railLow false).axis .zom).faultCause = some .driverHot ∧ (zoomFaulted .railLow false).drv.driverHot = true) ∧
      ¬(((zoomFaulted .railLow false).axis .zom).faultCause = some .railLow ∧ (zoomFaulted .railLow false).drv.railLow = true)) := by
  decide +kernel

/-- The brake FAULTED, with clamp pending or not. -/
def brakeDown (pending : Bool) : State :=
  { rest with brk := { rest.brk with state := .faulted, cause := some .noRelease, clampPending := pending, timer := some 40 } }

/-- A pair of channels driven. -/
def zoomOn (s : State) : State :=
  (s.setChan .ch4 { s.chan .ch4 with level := some 300 }) |> fun s => s.setChan .ch5 { s.chan .ch5 with level := some 300 }

/-- HSH and VSH hold, the brake is RELEASED with CH8 driven, and ZOM cruises. -/
def allDriven : State :=
  withAxis .hsh (fun r => { r with state := .holding })
    (withAxis .vsh (fun r => { r with state := .holding }) (shiftOn (zoomOn
      ({ cruising.setChan .ch8 { cruising.chan .ch8 with level := some 300 } with
        brk := { cruising.brk with state := .released } }))))

theorem travel_of_reset : TravelKept queued :=
  ⟨fun a => travel_of_decide (by cases a <;> decide +kernel), fun a => by cases a <;> decide +kernel,
   fun _ h => (by cases h)⟩

theorem test_witness_AxesKeepTheirCoilsAndTravel :
    CoilsFollowTheStates queued ∧ TravelKept queued ∧ (∃ t, step queued = .next t) ∧
    CoilsFollowTheStates allDriven ∧ TravelKept allDriven ∧
    axisInTravel { (cruising.axis .zom) with position := 36000, turnPoint := 0, target := 36000 } ∧
    axisInTravel (searching.axis .zom) ∧
    axisInTravel { (searching.axis .zom) with leg := .homeReturn, position := 36001, turnPoint := 36000 } :=
  ⟨coils_of_decide (by decide +kernel), travel_of_reset, steps, coils_of_decide (by decide +kernel),
   ⟨fun a => travel_of_decide (by cases a <;> decide +kernel), fun a => by cases a <;> decide +kernel,
    fun _ h => (by cases h)⟩,
   travel_of_decide (by decide +kernel), travel_of_decide (by decide +kernel), travel_of_decide (by decide +kernel)⟩

theorem test_witness_StoreRequestsBeginAWrite :
    (LinkReady .main beforeRecall ∧ beforeRecall.sto.write = none ∧ closedTo beforeRecall .main 5 = false ∧
      (3 : Byte).toNat < 12 ∧ (beforeRecall.lmm.presets.getD 3 emptyPreset).valid = true ∧
      (11 : Byte).toNat < 12 ∧ (beforeRecall.lmm.presets.getD 11 emptyPreset).valid = false) ∧
    ((List.replicate 16 (0x7E : Byte)).length ≤ 16 ∧ (∀ c ∈ List.replicate 16 (0x7E : Byte), 32 ≤ c.toNat ∧ c.toNat ≤ 126) ∧
      (15 : Byte).toNat < 16 ∧ (1 : Byte).toNat < 2) ∧
    (LinkReady .main rest ∧ maskBit 15 (axisCode .vsh) = true ∧ (rest.axis .vsh).referenced = false) ∧
    (∀ a ∈ allAxes, maskBit 15 (axisCode a) = true → (beforeRecall.axis a).referenced = true) ∧
    (LinkReady .service serving ∧ serving.sto.write.isSome = true ∧ closedTo serving .service 5 = false) :=
  by refine ⟨?_, ?_, ?_, ?_, ?_⟩ <;> decide +kernel

/-- MAIN serves a SETTINGS_SAVE whose write runs. -/
def saving : State :=
  { rest.setPort .main { rest.port .main with serving := some ⟨⟨17, .settingsSave⟩, none⟩ } with
    sto := { rest.sto with write := some (.save .main defaultParts) } }

theorem test_witness_WriteEndsStoreAndReply :
    (LinkSettled rest ∧ rest.sto.write = none) ∧
    (LinkSettled serving ∧ (serving.port .main).serving = some ⟨⟨17, .presetStore 3 0 0 []⟩, none⟩ ∧
      (serving.port .main).waiting = none ∧ (serving.port .main).replyReady = none ∧
      (serving.port .main).transmitter = none ∧ serving.lnk.arranged = none ∧
      serving.sto.write = some (.preset .main 3 scope)) ∧ serving.sto.image.good = true ∧
    (LinkSettled saving ∧ (saving.port .main).serving = some ⟨⟨17, .settingsSave⟩, none⟩ ∧
      (saving.port .main).waiting = none ∧ (saving.port .main).replyReady = none ∧
      (saving.port .main).transmitter = none ∧ saving.lnk.arranged = none ∧
      saving.sto.write = some (.save .main defaultParts)) :=
  ⟨by decide +kernel, by decide +kernel, sealImage_good _ _, by decide +kernel⟩

/-- Slot 3 holds geometry alone, or ZOM alone. -/
def withSlot (p : Preset) (s : State) : State := { s with lmm := { s.lmm with presets := s.lmm.presets.set 3 p } }

/-- Geometry alone: MANUAL with V 120. -/
def picture : State := withSlot ⟨true, [], PerAxis.all none, false, some ⟨noOffsets, .manual, 120⟩⟩ known

theorem test_witness_RecallMakesGeometryLive :
    LinkReady .main picture ∧ closedTo picture .main 5 = false ∧ (3 : Byte).toNat < 12 ∧
    picture.ths.regime ≠ .emergency ∧ picture.ths.regime ≠ .shutdown ∧ picture.lmm.active = false ∧
    picture.start.stage = .done ∧ (picture.lmm.presets.getD 3 emptyPreset).valid = true ∧
    (picture.lmm.presets.getD 3 emptyPreset).pos = PerAxis.all none ∧
    (picture.lmm.presets.getD 3 emptyPreset).geom = some ⟨noOffsets, .manual, 120⟩ ∧
    judgeQuad (quadOf ⟨noOffsets, .manual, 120⟩) = none ∧
    (picture.geo.lastHanded ≠ some ⟨quadOf ⟨noOffsets, .manual, 120⟩, 968, false, false⟩) ∧
    Hears (.recallDone .recalled none none none true) (picture.port .main) := by
  decide +kernel

/-- ZOM alone, beyond its travel limit; the window open. -/
def zoomSlot : State := withSlot ⟨true, [], ⟨none, none, some 36001, none⟩, false, none⟩ (shut known)

theorem test_witness_RecallMakesGeometryLiveAndOwesItsAxes :
    LinkReady .main zoomSlot ∧ closedTo zoomSlot .main 5 = false ∧ (3 : Byte).toNat < 12 ∧
    zoomSlot.ths.regime ≠ .emergency ∧ zoomSlot.ths.regime ≠ .shutdown ∧ zoomSlot.lmm.active = false ∧
    zoomSlot.drv.driverHot = false ∧ zoomSlot.drv.railLow = false ∧ zoomSlot.axc.zom.referenced = true ∧
    zoomSlot.axc.zom.state = .parked ∧ zoomSlot.drv.window.isSome = true ∧ zoomSlot.rlm.queue = [] ∧
    (zoomSlot.lmm.presets.getD 3 emptyPreset).valid = true ∧
    (zoomSlot.lmm.presets.getD 3 emptyPreset).pos = ⟨none, none, some 36001, none⟩ ∧
    (zoomSlot.lmm.presets.getD 3 emptyPreset).geom = none ∧
    clampInt zoomSlot.axc.zom.settings.travelMin zoomSlot.axc.zom.settings.travelMax 36001 ≠ zoomSlot.axc.zom.position := by
  decide +kernel

/-- A stack with one snapshot of geometry alone. -/
def stacked : State :=
  { known with lmm := { known.lmm with history := [⟨PerAxis.all none, false, ⟨noOffsets, .manual, 120⟩, .corner⟩] } }

/-- As `stacked`, with ZOM MOVING. -/
def stackedMoving : State := withAxis .zom (fun r => { r with state := .moving }) stacked

theorem test_witness_HistoryBackTakesTheTopSnapshot :
    (LinkReady .main known ∧ closedTo known .main 5 = false ∧ known.lmm.history = []) ∧
    (LinkReady .main stackedMoving ∧ (stackedMoving.axis .zom).state = .moving ∧ stackedMoving.lmm.history.length = 1) ∧
    (LinkReady .main (inRegime .shutdown 900 stacked) ∧ (inRegime .shutdown 900 stacked).lmm.active = false) ∧
    (LinkReady .main stacked ∧ stacked.lmm.active = false ∧
      (∀ a ∈ allAxes, (stacked.axis a).state ≠ .moving ∧ (stacked.axis a).state ≠ .waitStart ∧
        (stacked.axis a).state ≠ .homing) ∧
      stacked.ths.regime ≠ .emergency ∧ stacked.ths.regime ≠ .shutdown ∧ stacked.start.stage = .done ∧
      judgeQuad (quadOf ⟨noOffsets, .manual, 120⟩) = none ∧
      Hears (.recallDone .back none none none true) (stacked.port .main)) :=
  ⟨by decide +kernel, by decide +kernel, by decide +kernel, by decide +kernel⟩

/-- As `installed`, in a recall with the same record staged. -/
def installedStaged : State := { installed with lmm := { installed.lmm with staged := some inset } }

theorem test_witness_GeometryRequestsAreJudged :
    (LinkReady .main beforeRecall ∧ closedTo beforeRecall .main 4 = false ∧ 4 ≤ (4 : Byte).toNat ∧ (3 : Byte).toNat < 4 ∧
      judgeQuad (quadOf { beforeRecall.geo.live.geom with
        corners := { beforeRecall.geo.live.geom.corners with p3 := ⟨960, -540⟩ } }) = none) ∧
    (LinkReady .main installed ∧ judgeQuad (quadOf { inset with mode := .manual, v := 60 }) = none ∧
      judgeQuad (quadOf { inset with mode := .manual, v := 61 }) = some .area ∧
      judgeQuad (quadOf { inset with corners := { inset.corners with p0 := ⟨960, 0⟩ } }) = none ∧
      judgeQuad (quadOf { inset with corners := { inset.corners with p2 := ⟨-960, -540⟩ } }) = some .area) ∧
    (LinkReady .main installedStaged ∧ installedStaged.lmm.staged.isSome = true) ∧ 2 ≤ (2 : Byte).toNat := by
  decide +kernel

theorem test_witness_GeometryRequestsAreJudgedAndHanded :
    LinkReady .main installed ∧ closedTo installed .main 4 = false ∧ mountOf 0 = some .auto ∧ mountOf 2 = some .ceiling ∧
    mountOf 3 = none ∧ warpModeOf 0 = some .active ∧ warpModeOf 1 = some .bypass ∧ warpModeOf 2 = none ∧
    installed.geo.lastHanded ≠ some (warpInput installed.geo) ∧
    ({ installed with geo := { installed.geo with lastHanded := some (warpInput installed.geo) } } : State).geo.lastHanded =
      some (warpInput installed.geo) := by
  decide +kernel

/-- KEYSTONE_SET MANUAL and CORNER_SET on the live record hand an input equal to the last one, or a new one. -/
theorem test_witness_GeometryRequestsHandOrKeepTheirInput :
    (let s := { rest with geo := { rest.geo with lastHanded := some (warpInput rest.geo) } }
     LinkReady .main s ∧ closedTo s .main 4 = false ∧ s.lmm.staged = none ∧
      gives (.keystoneSet .main 1 0 0) s (fun t => s.geo.lastHanded = some (warpInput t.geo)) = true ∧
      gives (.keystoneSet .main 1 0 60) s (fun t => s.geo.lastHanded ≠ some (warpInput t.geo)) = true ∧
      gives (.cornerSet .main 1 0 0 0) s (fun t => s.geo.lastHanded = some (warpInput t.geo)) = true ∧
      gives (.cornerSet .main 1 0 9 5) s (fun t => s.geo.lastHanded ≠ some (warpInput t.geo)) = true) := by
  decide +kernel

theorem test_witness_WarpOfAHandedInput :
    judgeQuad installed.geo.quad = none ∧ installed.geo.live.warp = .active ∧ judgeQuad rest.geo.quad = none ∧
    (let g := { rest.geo with live := { rest.geo.live with warp := .bypass } }
     judgeQuad g.quad = none ∧ g.live.warp = .bypass) ∧ rest.wrp.link ≠ .posted ∧ posted.wrp.link = .posted := by
  decide +kernel

theorem test_witness_FanRequestsSetCurvesAndClearFaults :
    LinkReady .service rest ∧ LinkReady .main rest ∧ fanOf 2 = some .fan2 ∧ fanOf 0 = some .fan0 ∧
    risingCurve (clampCurve (wireCurve (wireAt 0))) = true ∧
    risingCurve (clampCurve (wireCurve ⟨⟨5, 0⟩, ⟨5, 0⟩, ⟨6, 0⟩, ⟨7, 0⟩, ⟨8, 0⟩⟩)) = false ∧
    clearFans 3 = some allFans ∧ clearFans 2 = some [.fan2] := by
  decide +kernel

/-- In SHUTDOWN with every sensor at `t`. -/
def shutDown (t : Int) : State := inRegime .shutdown t rest

theorem test_witness_LightAndShutdownRequestsGuardTheLight :
    LinkReady .main rest ∧ 2 ≤ (2 : Byte).toNat ∧ (1 : Byte).toNat = 1 ∧ (0 : Byte).toNat = 0 ∧
    (LinkReady .main (shutDown 200) ∧ (shutDown 200).ths.regime = .shutdown ∧
      (shutDown 200).ths.used = some (PerThermo.all ⟨200, false⟩) ∧ shutdownMayClear (shutDown 200) = true ∧
      tableOrdered (shutDown 200).ths.limits (shutDown 200).ths.hyst ∧ (shutDown 200).rlm.queue = []) ∧
    (LinkReady .main (shutDown 900) ∧ shutdownMayClear (shutDown 900) = false) ∧ rest.ths.regime ≠ .shutdown := by
  decide +kernel

theorem test_witness_QuietSetLowersDutiesToTheNewCaps :
    LinkReady .main (fansOn rest) ∧ quietOf 3 = none ∧ priorityOf 2 = none ∧ quietOf 0 = some .cinema ∧
    priorityOf 1 = some .coolFirst ∧ (fansOn rest).ths.regime = .quiet ∧ (fansOn rest).rlm.queue = [] ∧
    ((fansOn rest).fanRec .fan0).state = .running ∧
    (∀ g ∈ [Regime.limited, .override, .emergency, .shutdown], ∀ d ∈ [0, 40],
      let s := inRegime g (550 + d) (fansOn rest)
      LinkReady .main s ∧ s.ths.regime = g ∧ s.rlm.queue = [] ∧ excessOf s.ths ≤ 250 ∧ 0 < excessOf s.ths) := by
  decide +kernel

/-- In a regime with every sensor at 70.0 °C, the last notified limit 49 or 50 above the one for an excess of 100. -/
def told (g : Regime) (near : Bool) : State :=
  let s := inRegime g 700 { rest with ssc := { rest.ssc with published := some calmSet } }
  { s with ths := { s.ths with notified := limitOf g s.ths.priority 100 + if near then 49 else 50 } }

theorem test_witness_ThermalLimitSetReplacesTheTable :
    LinkReady .service rest ∧
    (∀ l ∈ (PerThermo.all (⟨600, 650, 800⟩ : Limit)).toList, l.warn < l.high ∧ l.high < l.crit ∧ l.crit ≤ l.warn + 200) ∧
    ¬(∀ l ∈ (PerThermo.all (⟨600, 650, 801⟩ : Limit)).toList, l.warn < l.high ∧ l.high < l.crit ∧ l.crit ≤ l.warn + 200) ∧
    (∀ g ∈ [Regime.quiet, .limited, .override, .emergency, .shutdown], ∀ near ∈ [true, false],
      LinkReady .service (told g near) ∧ (told g near).ths.regime = g ∧ (told g near).ssc.published.isSome = true ∧
      gives (.thermalLimitSet .service 1 ⟨PerThermo.all ⟨600, 650, 800⟩, 30⟩) (told g near) (fun t =>
        t.ths.excess = 100 && apart t.ths.limit (told g near).ths.notified = if near then 49 else 50) = true) := by
  decide +kernel

theorem test_witness_TableSetGivesTheOwnerItsTable :
    LinkReady .service rest ∧ tableOf 1 = some .tiltZero ∧ ([-12] : List Half).length = tableSize .tiltZero ∧
    rest.rlm.queue = [] ∧ tableOf 0 = some .conversion ∧ (List.replicate 17 (0 : Half)).length = tableSize .conversion ∧
    (∀ id ∈ [TableId.focusComp, .focusZoom], ∀ pub ∈ [none, some calmSet],
      let s := { rest with ssc := { rest.ssc with published := pub } }
      LinkReady .service s ∧ s.rlm.queue = [] ∧ (s.ssc.published.bind fun z => z.chans.thermo.lns.value) = pub.map fun _ => 300) ∧
    tableOf 6 = some .brake ∧
    (∀ x ∈ ([([300, 350, 10, 200], ⟨400, 350, 10, 200⟩), ([399, 401, 9, 201], ⟨400, 400, 10, 200⟩),
        ([500, 501, 60, 40], ⟨500, 500, 60, 40⟩)] : List (List Half × BrakeSettings)),
      x.1.length = tableSize .brake ∧
      gives (.tableSet .service 1 6 x.1) rest (fun t => t.brk.settings = x.2) = true) := by
  decide +kernel

theorem test_witness_BudgetAndCompensationAreSet :
    (let s := { rest with rlm := { rest.rlm with fans := ⟨650, 300, 350⟩ } }
     LinkReady .service s ∧ clampNat 1000 4000 (1299 : Half).toNat < s.rlm.sum ∧
      s.rlm.sum ≤ clampNat 1000 4000 (1300 : Half).toNat ∧ s.rlm.queue = []) ∧
    (LinkReady .service (fansOn rest) ∧ (fansOn rest).rlm.sum ≤ clampNat 1000 4000 (4001 : Half).toNat ∧ (fansOn rest).rlm.queue = []) ∧
    LinkReady .main rest ∧ 2 ≤ (2 : Byte).toNat ∧ (1 : Byte).toNat < 2 := by
  decide +kernel

/-- ZOM referenced outside its default limits, and a rail sum above the default budget. -/
def strayed : State :=
  withAxis .zom (fun r => { r with position := 36001 })
    { known with rlm := { known.rlm with fans := ⟨2401, 0, 0⟩, budget := 4000 } }

theorem test_witness_SettingsDefaultLoadsTheFactoryValues :
    (LinkReady .main cruising ∧ (cruising.axis .zom).state ≠ .parked ∧ (cruising.axis .zom).state ≠ .faulted) ∧
    (LinkReady .main rest ∧ LinkReady .service rest ∧
      (∀ a ∈ allAxes, (rest.axis a).state = .parked ∨ (rest.axis a).state = .faulted) ∧ rest.rlm.queue = []) ∧
    (let s := strayed
     LinkReady .service s ∧ 2400 < s.rlm.sum ∧ s.rlm.queue = [] ∧ (s.axis .zom).referenced = true ∧
      ¬inTravel (defaultAxis .zom) (s.axis .zom).position ∧
      (allAxes.all fun a => (s.axis a).state = .parked || (s.axis a).state = .faulted) = true) :=
  by refine ⟨?_, ?_, ?_⟩ <;> decide +kernel

theorem test_witness_PowerResetLoadsTheImage :
    (known.sto.image.good = true ∧ known.sto.write = none ∧
      judgeQuad (quadOf known.sto.image.parts.geometry.geom) = none ∧ known.sto.image.parts.autoHome = true) ∧
    serving.sto.write.isSome = true ∧
    ({ rest with sto := { rest.sto with image := spoilImage builtImage } } : State).sto.image.good = false :=
  ⟨⟨sealImage_good _ _, by decide +kernel, by decide +kernel, by decide +kernel⟩, by decide +kernel, spoilImage_good _⟩

/-- A soft reset arranged, its reply gone or not. -/
def arrangedReset (left : Bool) : State := { rest with lnk := { rest.lnk with arranged := some ⟨.main, left, 0⟩ } }

theorem test_witness_SoftResetKeepsWhatRunsOn :
    (LinkSettled serving ∧ serving.sto.write.isSome = true) ∧
    (LinkSettled (arrangedReset false) ∧ (arrangedReset false).lnk.arranged = some ⟨.main, false, 0⟩) ∧
    ((arrangedReset true).sto.write = none ∧ (arrangedReset true).lnk.arranged = some ⟨.main, true, 0⟩) ∧
    (arrangedReset true).sto.image.good = true :=
  ⟨by decide +kernel, by decide +kernel, by decide +kernel, sealImage_good _ _⟩

/-- Start-up about to home ZOM: the window of start-up closed or still open, a set published, the spacing not met. -/
def toHome (closed : Bool) : State :=
  let s := if closed then rest else shut rest
  { s with
    start := ⟨.powerOn, .homing [.zom, .foc, .hsh, .vsh] none, closed⟩
    ssc := { s.ssc with published := some calmSet }
    rlm := { s.rlm with grants := [0] } }

/-- Start-up about to recall slot 11, which holds `p`. -/
def toRecall (p : Preset) (s : State) : State :=
  { s with
    start := ⟨.powerOn, .askRecall, true⟩, sto := { s.sto with powerOnSlot := some 11 }
    lmm := { s.lmm with presets := s.lmm.presets.set 11 p } }

/-- A VALID slot of positions alone. -/
def slotOf (pos : PerAxis (Option Int)) : Preset := ⟨true, [], pos, false, none⟩

theorem test_witness_StartUpAsksForHomesAndTheRecall :
    (LinkSettled (toHome false) ∧ (toHome false).start.stage = .homing (.zom :: [.foc, .hsh, .vsh]) none ∧
      (toHome false).start.windowClosed = false) ∧
    (let s := inRegime .emergency 900 (toHome true)
     LinkSettled s ∧ s.start.stage = .homing (.zom :: .foc :: [.hsh, .vsh]) none ∧ s.start.windowClosed = true ∧
      s.ssc.published.isSome = true ∧ s.ths.regime = .emergency) ∧
    (LinkSettled (toHome true) ∧ (toHome true).start.stage = .homing (.zom :: [.foc, .hsh, .vsh]) none ∧
      (toHome true).start.windowClosed = true ∧ (toHome true).ssc.published.isSome = true ∧ partnerOf .zom = none ∧
      ((toHome true).axis .zom).state = .parked ∧ (toHome true).drv.driverHot = false ∧ (toHome true).drv.railLow = false ∧
      (toHome true).ths.regime ≠ .emergency ∧ (toHome true).ths.regime ≠ .shutdown ∧ (toHome true).rlm.queue = [] ∧
      spacingAllows (toHome true).now (toHome true).rlm.grants = false ∧
      (shut (toHome true)).drv.window.isSome = true ∧ LinkSettled (shut (toHome true))) ∧
    (let s := inRegime .emergency 900 (toRecall emptyPreset rest)
     let s := { s with start := { s.start with kind := .soft } }
     LinkSettled s ∧ s.start.stage = .askRecall ∧ s.sto.powerOnSlot = some 11 ∧ s.start.kind = .soft ∧
      s.ths.regime = .emergency ∧ Hears (.ready .soft (referencedFlags s) s.sto.defaulted (.refused .thermal)) (s.port .main)) ∧
    (let s := toRecall emptyPreset rest
     LinkSettled s ∧ s.start.kind ≠ .soft ∧ s.start.stage = .askRecall ∧ s.sto.powerOnSlot = some 11 ∧
      (s.lmm.presets.getD 11 emptyPreset).valid = false) ∧
    (let s := toRecall (slotOf (PerAxis.all none)) rest
     LinkSettled s ∧ (s.lmm.presets.getD 11 emptyPreset).valid = true ∧ s.ths.regime ≠ .emergency ∧
      s.ths.regime ≠ .shutdown ∧ s.lmm.active = false ∧ (s.lmm.presets.getD 11 emptyPreset).geom = none ∧
      (s.lmm.presets.getD 11 emptyPreset).pos = PerAxis.all none ∧ (s.port .main).Idle ∧
      Hears (.ready s.start.kind (referencedFlags s) s.sto.defaulted (.ended none)) (s.port .main)) ∧
    (let s := toRecall (slotOf ⟨none, none, some 36001, none⟩) (shut known)
     LinkSettled s ∧ s.axc.zom.referenced = true ∧ s.drv.driverHot = false ∧ s.drv.railLow = false ∧
      s.axc.zom.state = .parked ∧ s.drv.window.isSome = true ∧ s.rlm.queue = [] ∧
      (s.lmm.presets.getD 11 emptyPreset).pos = ⟨none, none, some 36001, none⟩ ∧
      clampInt s.axc.zom.settings.travelMin s.axc.zom.settings.travelMax 36001 ≠ s.axc.zom.position) :=
  by refine ⟨?_, ?_, ?_, ?_, ?_, ?_⟩ <;> decide +kernel

/-- One request in the queue, a grant at 0 behind it. -/
def waiting (q : StartReq) (s : State) : State := { s with rlm := { s.rlm with queue := [q], grants := [0] } }

/-- FAN2's start, with a budget it just fits. -/
def fanWaits : State :=
  let s := waiting ⟨.fan .fan2, .fan, 350, false, 0, 0⟩ rest
  { s with rlm := { s.rlm with budget := 350 } }

/-- HSH waits for its grant, everything off. -/
def shiftWaiting : State :=
  waiting ⟨.axis .hsh, .motor, 2 * (known.axis .hsh).settings.run + 2 * (known.axis .vsh).settings.hold, true, 0, 0⟩
    (withAxis .hsh (fun r => { r with state := .waitStart, pendingTarget := some 4000 }) known)

theorem test_witness_SpacingExpiryGrantsTheHead :
    (LinkSettled rest ∧ rest.rlm.queue = []) ∧
    (LinkSettled fanWaits ∧ fanWaits.rlm.queue = [⟨.fan .fan2, .fan, ratedCurrent .fan2, false, 0, 0⟩] ∧
      fanWaits.drv.window = none ∧
      (advanceTo (spacingMoment fanWaits.rlm.grants) fanWaits).rlm.grants.all
        (fun t => t + 20 ≤ (advanceTo (spacingMoment fanWaits.rlm.grants) fanWaits).now) = true ∧
      recentGrants (advanceTo (spacingMoment fanWaits.rlm.grants) fanWaits).now fanWaits.rlm.grants < 4 ∧
      fanWaits.rlm.sum + ratedCurrent .fan2 ≤ fanWaits.rlm.budget) ∧
    (LinkSettled (waiting ⟨.brake, .brake, 900, false, 0, 0⟩ (shiftOn rest)) ∧
      (waiting ⟨.brake, .brake, 900, false, 0, 0⟩ (shiftOn rest)).rlm.queue =
        [⟨.brake, .brake, rest.brk.settings.hit, false, 0, 0⟩] ∧ shiftDriven (shiftOn rest) = true ∧
      (shiftOn rest).drv.window = none ∧ rest.rlm.sum + rest.brk.settings.hit ≤ rest.rlm.budget) ∧
    (LinkSettled shiftWaiting ∧ partnerOf .hsh = some .vsh ∧ (shiftWaiting.axis .hsh).state = .waitStart ∧
      (shiftWaiting.axis .hsh).pendingTarget = some 4000 ∧ (shiftWaiting.axis .vsh).state = .parked ∧
      (shiftWaiting.axis .hsh).resume ≠ .settling ∧
      (∀ c ∈ allChans, (shiftWaiting.chan c).level = none ∧ (shiftWaiting.chan c).latched = false) ∧
      shiftWaiting.brk.state = .engaged ∧ shiftWaiting.brk.releaseQueued = false ∧ shiftWaiting.drv.window = none ∧
      shiftWaiting.rlm.axes.get .hsh = 0 ∧ shiftWaiting.rlm.axes.get .vsh = 0 ∧
      (advanceTo (spacingMoment shiftWaiting.rlm.grants) shiftWaiting).rlm.grants.all
        (fun t => t + 20 ≤ (advanceTo (spacingMoment shiftWaiting.rlm.grants) shiftWaiting).now) = true ∧
      recentGrants (advanceTo (spacingMoment shiftWaiting.rlm.grants) shiftWaiting).now shiftWaiting.rlm.grants < 4 ∧
      shiftWaiting.rlm.sum + 2 * (shiftWaiting.axis .hsh).settings.run + 2 * (shiftWaiting.axis .vsh).settings.hold ≤
        shiftWaiting.rlm.budget) := by
  decide +kernel

/-- HSH, settling with its coils at RUN, in the given state with resume state SETTLING beside VSH PARKED and off, the brake
ENGAGED. -/
def besideParked (x : AxisState) : State :=
  let s := withAxis .hsh (fun r => { r with
    state := x, resume := .settling, settleMove := true, settleEnd := 100, pendingTarget := some 4000 }) known
  let d := driveRun .hsh s
  { d with rlm := { d.rlm with axes := ⟨2 * (s.axis .hsh).settings.run, 0, 0, 0⟩ } }

/-- R14, R52: a start from SETTLING has the need 0 and no partner hold, although R8 has a start of the same axis from rest
take in its partner's hold. -/
theorem test_start_from_settling_needs_nothing :
    gives (.axisMove .main 17 0 3000 1) (shut (besideParked .settling)) (fun t =>
      t.rlm.queue = [⟨.axis .hsh, .motor, 0, false, 0, 0⟩]) = true ∧
    axisNeed known .hsh = (2 * 400 + 2 * 250, true) := by
  decide +kernel

/-- The start of HSH from SETTLING waits for its grant. -/
def settlerWaits : State := waiting ⟨.axis .hsh, .motor, 0, false, 0, 0⟩ (besideParked .waitStart)

theorem test_witness_SpacingExpiryGrantsAStartFromSettling :
    LinkSettled settlerWaits ∧ partnerOf .hsh = some .vsh ∧ (settlerWaits.axis .hsh).state = .waitStart ∧
    (settlerWaits.axis .hsh).resume = .settling ∧ (settlerWaits.axis .hsh).pendingTarget = some 4000 ∧
    (settlerWaits.axis .vsh).state = .parked ∧ energised settlerWaits .vsh = false ∧
    (settlerWaits.chan (chansOf .hsh).1).latched = false ∧ (settlerWaits.chan (chansOf .hsh).2).latched = false ∧
    settlerWaits.brk.state = .engaged ∧ settlerWaits.drv.window = none ∧
    settlerWaits.rlm.axes.get .hsh = 2 * (settlerWaits.axis .hsh).settings.run ∧
    (advanceTo (spacingMoment settlerWaits.rlm.grants) settlerWaits).rlm.grants.all
      (fun t => t + 20 ≤ (advanceTo (spacingMoment settlerWaits.rlm.grants) settlerWaits).now) = true ∧
    recentGrants (advanceTo (spacingMoment settlerWaits.rlm.grants) settlerWaits).now settlerWaits.rlm.grants < 4 ∧
    settlerWaits.rlm.sum ≤ settlerWaits.rlm.budget ∧
    gives .grantSpacingExpiry settlerWaits (fun t =>
      (t.axis .hsh).granted && (t.axis .vsh).state = .parked && !energised t .vsh && t.brk = settlerWaits.brk &&
      t.rlm.queue = []) = true := by
  decide +kernel

/-- FOC has waited since 10. -/
def focWaits : State :=
  let s := withAxis .foc (fun r => { r with state := .waitStart, pendingTarget := some 50 }) (shut known)
  { s with rlm := { s.rlm with queue := [⟨.axis .foc, .motor, 500, false, 0, 10⟩] } }

theorem test_witness_QueueTimeoutWithdrawsTheStart :
    (LinkSettled rest ∧ rest.rlm.queue.find? (fun q => q.requester = .axis .zom) = none) ∧
    (LinkSettled focWaits ∧ focWaits.rlm.queue = [⟨.axis .foc, .motor, 500, false, 0, 10⟩] ∧ partnerOf .foc = none ∧
      (focWaits.axis .foc).state = .waitStart ∧ (focWaits.axis .foc).profile = .rest ∧
      (focWaits.axis .foc).granted = false ∧ energised focWaits .foc = false ∧ (focWaits.axis .foc).origin = .user ∧
      focWaits.now ≤ 10 + 2000) := by
  decide +kernel

theorem test_witness_ProfileEventsFollowTheTrapezoid :
    (LinkSettled cruising ∧ (cruising.axis .zom).state = .moving ∧ (cruising.axis .zom).leg ≠ .search ∧
      (cruising.axis .zom).leg ≠ .none ∧ (cruising.axis .zom).profile = .cruise ∧ (cruising.axis .zom).phase ≠ .takeup) ∧
    (let s := withAxis .zom (fun r => { r with profile := .accel, speed := 0 }) cruising
     LinkSettled s ∧ (s.axis .zom).state = .moving ∧ (s.axis .zom).profile = .accel) ∧
    (LinkSettled rest ∧ (rest.axis .zom).profile = .rest) := by
  decide +kernel

/-- ZOM decelerates on a leg of the given kind. -/
def landing (l : Leg) : State := withAxis .zom (fun r => { r with profile := .decel, leg := l }) cruising

/-- Both shift pairs driven and HOLDING, the brake in the given state. -/
def shiftHolds (b : BrakeState) (s : State) : State :=
  withAxis .hsh (fun r => { r with state := .holding })
    (withAxis .vsh (fun r => { r with state := .holding }) { shiftOn s with brk := { s.brk with state := b } })

/-- HSH comes to rest from a home that has failed, with the brake and VSH in the given states. -/
def homeFailing (b : BrakeState) (x : AxisState) : State :=
  withAxis .hsh (fun r => { r with
      state := .homing, profile := .decel, leg := .homeFail, endResult := some .homeFail, origin := .home })
    (withAxis .vsh (fun r => { r with state := x }) (shiftHolds b known))

theorem test_witness_LegAtRestSettlesOrTurns :
    (LinkSettled (landing .toTarget) ∧ (landing .toTarget).rlm.queue = [] ∧
    0 < ((landing .toTarget).axis .zom).settings.settle ∧ ((landing .toTarget).axis .zom).state = .moving ∧
    ((landing .toTarget).axis .zom).profile = .decel ∧ ((landing .overshoot).axis .zom).leg = .overshoot ∧
    ((landing .reversal).axis .zom).leg = .reversal ∧ LinkSettled (landing .overshoot) ∧ LinkSettled (landing .reversal) ∧
    (let s := withAxis .zom (fun r => { r with profile := .decel, leg := .overrun }) searching
     LinkSettled s ∧ (s.axis .zom).state = .homing ∧ (s.axis .zom).leg = .overrun ∧ (s.axis .zom).profile = .decel) ∧
    (let s := withAxis .zom (fun r => { r with profile := .decel, leg := .homeOvershoot }) searching
     LinkSettled s ∧ (s.axis .zom).state = .homing ∧ (s.axis .zom).leg = .homeOvershoot) ∧
    (let s := withAxis .zom (fun r => { r with profile := .decel, leg := .homeFail, endResult := some .homeFail }) searching
     LinkSettled s ∧ (s.axis .zom).state = .homing ∧ (s.axis .zom).leg = .homeFail ∧ partnerOf .zom = none ∧
      (s.axis .zom).origin = .home ∧ (s.axis .zom).granted = false ∧ s.start.stage = .done ∧ s.rlm.queue = [] ∧
      Hears (.motionDone .zom .home .homeFail (s.axis .zom).turnPoint) (s.port .main))) ∧
    (let s := withAxis .zom (fun r => { r with settings := { r.settings with settle := 0 } }) (landing .toTarget)
     LinkSettled s ∧ (s.axis .zom).settings.settle = 0 ∧ (s.axis .zom).settings.idle = .park ∧
      (s.axis .zom).origin = .user ∧ s.rlm.queue = [] ∧ (s.axis .zom).state = .moving ∧ (s.axis .zom).profile = .decel) ∧
    (∀ b ∈ [BrakeState.released, .engaged, .faulted], ∀ x ∈ [AxisState.holding, .parked, .faulted],
      let s := homeFailing b x
      LinkSettled s ∧ s.rlm.queue = [] ∧ (s.axis .hsh).state = .homing ∧ (s.axis .hsh).profile = .decel ∧
        (s.axis .hsh).leg = .homeFail ∧ (s.axis .hsh).granted = false ∧ s.brk.releaseQueued = false ∧
        s.brk.state = b ∧ (s.axis .vsh).state = x ∧ (brakeClamped s.brk = true ∨ b ≠ .engaged)) := by
  refine ⟨?_, ?_, ?_⟩ <;> decide +kernel

/-- ZOM settles until 100 at the end of a user move. -/
def settling : State :=
  withAxis .zom (fun r => { r with state := .settling, settleMove := true, settleEnd := 100, endResult := some .stopped }) known

theorem test_witness_LoadIndicatorsDetectAStall :
    (LinkSettled rest ∧ (rest.axis .zom).state ≠ .moving) ∧
    (LinkSettled cruising ∧ (cruising.axis .zom).state = .moving ∧ (cruising.axis .zom).phase = .cruise ∧
      (cruising.axis .zom).speedClass = .normal ∧ (cruising.axis .zom).settings.stall ≤ (40 : Byte).toNat ∧
      (39 : Byte).toNat < (cruising.axis .zom).settings.stall ∧
      (cruising.axis .zom).lowLoad < 3) ∧
    (let s := withAxis .zom (fun r => { r with lowLoad := 3 }) cruising
     LinkSettled s ∧ (s.axis .zom).lowLoad = 3 ∧ partnerOf .zom = none ∧ (s.axis .zom).origin = .user ∧
      (s.axis .zom).granted = false ∧ s.rlm.queue = []) := by
  decide +kernel

theorem test_witness_HomeSearchEndsAtItsEdgeOrItsLimit :
    (LinkSettled searching ∧ (searching.axis .zom).state = .homing ∧ (searching.axis .zom).phase = .search ∧
      (searching.axis .zom).leg = .search ∧ (searching.axis .zom).dir = .pos) ∧
    (LinkSettled rest ∧ ¬((rest.axis .zom).state = .homing ∧ (rest.axis .zom).leg = .search)) := by
  decide +kernel

/-- CH4 of ZOM driven at 300 with a check running until 5. -/
def checking : State := cruising.setChan .ch4 { cruising.chan .ch4 with level := some 300, check := some 5 }

theorem test_witness_ChannelFaultsReachTheirAxis :
    (LinkSettled rest ∧ (rest.chan .ch4).check = none ∧ (rest.chan .ch4).level = none) ∧
    (LinkSettled checking ∧ (checking.chan .ch4).check = some 5 ∧ (checking.chan .ch4).level = some 300 ∧ 300 ≤ 4 * 75 ∧
      4 * 74 < 300 ∧ ownerOf .ch4 = some .zom ∧ partnerOf .zom = none ∧ (checking.axis .zom).origin = .user ∧
      (checking.axis .zom).granted = false ∧ checking.rlm.queue = [] ∧ checking.now ≤ 5 ∧
      (checking.chan .ch4).level.isSome = true ∧ 1400 < 1401) := by
  decide +kernel

/-- The brake RELEASING until 80 with CH8 at HIT, HSH granted and waiting for the release, VSH holding. -/
def shiftReleasing (hit dip : Bool) (next : Option BrakeNext) : State :=
  let s := withAxis .hsh (fun r => { r with state := .waitStart, pendingTarget := some 4000, granted := true })
    (shiftHolds .releasing releasing)
  { s with brk := { s.brk with timer := some 80, hitReached := hit, dipSeen := dip, next := next } }

/-- HSH settles until 100 at the end of a user move, VSH holds with the given policy, the brake in the given state. -/
def shiftSettles (b : BrakeState) (owes : Bool) (policy : IdlePolicy) : State :=
  let s := withAxis .hsh (fun r => { r with state := .settling, settleMove := true, settleEnd := 100, mustPark := owes })
    (withAxis .vsh (fun r => { r with settings := { r.settings with idle := policy } }) (shiftHolds b known))
  if b = .released ∨ b = .releasing then s.setChan .ch8 { s.chan .ch8 with level := some 300 } else s

theorem test_witness_SettleExpiryEndsTheMove :
    (LinkSettled rest ∧ (rest.axis .zom).state ≠ .settling) ∧
    (LinkSettled settling ∧ (settling.axis .zom).state = .settling ∧ (settling.axis .zom).settleMove = true ∧
      (settling.axis .zom).profile = .rest ∧ settling.now ≤ (settling.axis .zom).settleEnd ∧ partnerOf .zom = none ∧
      (settling.axis .zom).settings.idle = .park ∧ (settling.axis .zom).origin = .user ∧ settling.rlm.queue = []) ∧
    (∀ o ∈ [Origin.recalled, .back, .home, .comp],
      let s := withAxis .zom (fun r => { r with origin := o }) settling
      LinkSettled s ∧ (s.axis .zom).origin = o ∧ (s.axis .zom).state = .settling) ∧
    (let s := zoomOn (withAxis .zom (fun r => { r with settings := { r.settings with idle := .hold } }) settling)
     LinkSettled s ∧ (s.axis .zom).settings.idle = .hold ∧ s.ths.regime = .quiet ∧ coilsFollow s = true ∧
      (s.axis .zom).state = .settling) ∧
    (∀ b ∈ [BrakeState.released, .releasing, .engaging, .engaged, .faulted],
      (let s := shiftSettles b false .park
       LinkSettled s ∧ coilsFollow s = true ∧ s.rlm.queue = [] ∧ (s.axis .hsh).origin = .user ∧
        (s.axis .hsh).profile = .rest ∧ (s.axis .hsh).mustPark = false ∧ partnerOf .hsh = some .vsh ∧
        (s.axis .vsh).state = .holding ∧ (s.axis .hsh).settings.idle = .park ∧ (s.axis .vsh).settings.idle = .park ∧
        s.brk.state = b ∧ (brakeClamped s.brk = true ∨ b ≠ .engaged)) ∧
      (shiftSettles b false .hold).axc.vsh.settings.idle = .hold ∧ coilsFollow (shiftSettles b false .hold) = true ∧
      (shiftSettles b true .park).axc.hsh.mustPark = true ∧ coilsFollow (shiftSettles b true .park) = true) := by
  refine ⟨?_, ?_, ?_, ?_, ?_⟩ <;> decide +kernel

theorem test_witness_SettleOfNoMoveAndClosedRegimes :
    (let s := withAxis .zom (fun r => { r with settleMove := false }) settling
     LinkSettled s ∧ (s.axis .zom).state = .settling ∧ (s.axis .zom).settleMove = false ∧ (s.axis .zom).profile = .rest ∧
      s.now ≤ (s.axis .zom).settleEnd ∧ s.rlm.queue = []) ∧
    (∀ r ∈ [Regime.emergency, .shutdown],
      let s := inRegime r 900 (withAxis .zom (fun r => { r with settings := { r.settings with idle := .hold } }) settling)
      LinkSettled s ∧ (s.axis .zom).state = .settling ∧ (s.axis .zom).settings.idle = .hold ∧ s.ths.regime = r) ∧
    (let s := withAxis .vsh (fun r => { r with state := .waitStart }) (shiftSettles .engaged true .park)
     LinkSettled s ∧ coilsFollow s = true ∧ s.rlm.queue = [] ∧ (s.axis .hsh).mustPark = true ∧
      brakeClamped s.brk = true ∧ (s.axis .vsh).state = .waitStart ∧ (s.axis .hsh).profile = .rest) ∧
    (let s := shiftSettles .faulted true .park
     let t := { s with brk := { s.brk with clampPending := true } }
     LinkSettled t ∧ coilsFollow t = true ∧ t.brk.state = .faulted ∧ t.brk.clampPending = true ∧
      (t.axis .vsh).state = .holding ∧ brakeClamped t.brk = false) := by
  decide +kernel

/-- A new move of the axis is taken from MAIN, the start waits, and no other request is in the queue. -/
def takesNew (b : Byte) (a : Axis) (s : State) : Bool :=
  LinkReady .main s && axisOf b = some a && closedTo s .main (axisCode a) = false && motionCheck s a .absolute = none &&
    motionCheck s a .jog = none && (s.rlm.queue = [] || s.drv.window.isSome || spacingAllows s.now s.rlm.grants = false) &&
    s.rlm.queue.all fun q => q.requester = .axis a

/-- HSH waits for its start, granted or not, VSH holds, and the brake is in the given state. -/
def shiftStops (b : BrakeState) (granted : Bool) (resume : Resume) : State :=
  let s := withAxis .hsh (fun r => { r with
      state := .waitStart, pendingTarget := some 4000, granted := granted, resume := resume }) (shiftHolds b known)
  let ask : StartReq := if granted then ⟨.brake, .brake, 900, false, 4, 0⟩ else ⟨.axis .hsh, .motor, 300, false, 3, 0⟩
  let t := if b = .released ∨ b = .releasing then s.setChan .ch8 { s.chan .ch8 with level := some 300 } else s
  { t with
    rlm := { t.rlm with queue := if granted = true ∧ b ≠ .engaged then [] else [ask] }
    brk := { t.brk with releaseQueued := granted && b = .engaged } }

theorem test_witness_StopWithdrawsAnEnergisedStart :
    (LinkReady .main known ∧ stopAxes 9 = none) ∧
    (∀ r ∈ [Resume.parked, .holding, .settling], ∀ g ∈ [Regime.quiet, .emergency],
      let s := inRegime g 200 (withAxis .zom (fun x => { x with resume := r }) (zoomOn (zoomWaits .user false)))
      LinkReady .main s ∧ axisOf 2 = some .zom ∧ (s.axis .zom).state = .waitStart ∧ energised s .zom = true ∧
        coilsFollow s = true ∧ (∀ a ∈ allAxes, (s.axis a).mustPark = false) ∧ s.start.stage = .done ∧
        s.lmm.active = false ∧ (s.axis .zom).resume = r ∧ s.ths.regime = g ∧ partnerOf .zom = none ∧
        (∀ q ∈ s.rlm.queue, q.requester = .axis .zom)) ∧
    (∀ b ∈ [BrakeState.engaged, .releasing, .released, .engaging, .faulted], ∀ k ∈ [true, false],
      ∀ r ∈ [Resume.holding, .settling],
      let s := shiftStops b k r
      LinkReady .main s ∧ axisOf 0 = some .hsh ∧ (s.axis .hsh).state = .waitStart ∧ isShift .hsh = true ∧
        coilsFollow s = true ∧ (∀ a ∈ allAxes, (s.axis a).mustPark = false) ∧ s.start.stage = .done ∧
        s.lmm.active = false ∧ (s.axis .vsh).state = .holding ∧ (s.axis .vsh).granted = false ∧
        (∀ q ∈ s.rlm.queue, q.requester = .axis .hsh ∨
          (q.requester = .brake ∧ (s.axis .hsh).granted = true ∧ s.brk.releaseQueued = true))) ∧
    (∀ k ∈ [true, false],
      let s := withAxis .vsh (fun x => { x with state := .waitStart, pendingTarget := some 300, granted := k })
        (shiftStops .engaged true .holding)
      let t := { s with rlm := { s.rlm with
        grants := [0], queue := s.rlm.queue ++ if k then [] else [⟨.axis .vsh, .motor, 300, false, 5, 0⟩] } }
      LinkReady .main t ∧ coilsFollow t = true ∧ spacingAllows t.now t.rlm.grants = false ∧
        (∀ q ∈ t.rlm.queue, q.cls ≠ .fan) ∧ (t.axis .vsh).state = .waitStart ∧ (t.axis .hsh).granted = true ∧
        (t.axis .vsh).granted = k) := by
  refine ⟨?_, ?_, ?_, ?_⟩ <;> decide +kernel

/-- FOC waits for a compensation start, the window open. -/
def compWaits : State :=
  let s := withAxis .foc (fun r => { r with state := .waitStart, pendingTarget := some 400, origin := .comp }) (shut known)
  { s with
    rlm := { s.rlm with queue := [⟨.axis .foc, .comp, 500, false, 0, 0⟩], nextArrival := 1 }
    fcp := { s.fcp with moveActive := true } }

theorem test_witness_NewTargetContinuesTheMove :
    (speedOf 0 = some .slow ∧ speedOf 2 = some .fast ∧
      takesNew 2 .zom known = true ∧ (known.axis .zom).state = .parked ∧ known.rlm.queue = [] ∧
      clampInt (known.axis .zom).settings.travelMin (known.axis .zom).settings.travelMax (10000 : Long).toInt =
        (known.axis .zom).position ∧ (known.axis .zom).lastDir = (known.axis .zom).settings.approach ∧
      takesNew 3 .foc known = true ∧ (known.axis .foc).position = 0 ∧ (known.axis .foc).referenced = true) ∧
    (takesNew 2 .zom cruising = true ∧ (cruising.axis .zom).state = .moving ∧ cruising.rlm.queue = [] ∧
      (stopDistance (cruising.axis .zom) : Int) ≤ (36000 - (cruising.axis .zom).position) * (cruising.axis .zom).dir.sign ∧
      ¬((stopDistance (cruising.axis .zom) : Int) ≤ (11200 - (cruising.axis .zom).position) * (cruising.axis .zom).dir.sign) ∧
      takesNew 2 .zom recalling = true ∧ recalling.lmm.active = true ∧ (recalling.axis .zom).origin = .recalled) ∧
    (∀ s ∈ [shut (zoomWaits .user false), shut (zoomWaits .recalled true), shut (zoomWaits .back true),
        { zoomWaits .user false with rlm := { (zoomWaits .user false).rlm with grants := [0] } }],
      takesNew 2 .zom s = true ∧ (s.axis .zom).state = .waitStart ∧
        s.rlm.queue = [⟨.axis .zom, .motor, 600, false, 0, 0⟩] ∧ startClass (s.axis .zom).origin = .motor) ∧
    (takesNew 3 .foc compWaits = true ∧ (compWaits.axis .foc).state = .waitStart ∧
      startClass (compWaits.axis .foc).origin = .comp ∧ compWaits.rlm.queue = [⟨.axis .foc, .comp, 500, false, 0, 0⟩] ∧
      (let s := withAxis .hsh (fun r => { r with referenced := true }) (shiftReleasing true true none)
       takesNew 0 .hsh s = true ∧ (s.axis .hsh).state = .waitStart ∧ s.rlm.queue = [])) ∧
    (takesNew 2 .zom (shut settling) = true ∧ (settling.axis .zom).state = .settling ∧
      (settling.axis .zom).settleMove = true ∧ (shut settling).drv.window.isSome = true) ∧
    (let s := shut (besideParked .settling)
     takesNew 0 .hsh s = true ∧ (s.axis .hsh).state = .settling ∧ (s.axis .hsh).settleMove = true ∧ s.rlm.queue = [] ∧
      s.rlm.axes.get .hsh = 2 * (s.axis .hsh).settings.run ∧ s.drv.window.isSome = true) := by
  refine ⟨?_, ?_, ?_, ?_, ?_, ?_⟩ <;> decide +kernel

/-- FAN2's start is the head, with ZOM's and an older start of FOC behind it, ZOM and FOC in the given states, and the
given budget; the spacing has not lapsed. -/
def headAndTwo (x : AxisState) (budget : Nat) : State :=
  let s := withAxis .foc (fun r => { r with state := x })
    (withAxis .zom (fun r => { r with state := x, pendingTarget := some 12000 }) known)
  { s with rlm := { s.rlm with
      axes := ⟨0, 0, 200, 160⟩, budget := budget, grants := [0], nextArrival := 3
      queue := [⟨.axis .zom, .motor, 400, false, 1, 0⟩, ⟨.axis .foc, .motor, 340, false, 0, 0⟩,
        ⟨.fan .fan2, .fan, 350, false, 2, 0⟩] } }

/-- As `headAndTwo`, with ZOM's start, that is the older one, at the head. -/
def zoomAhead (budget : Nat) : State :=
  let s := headAndTwo .waitStart budget
  { s with rlm := { s.rlm with
      queue := [⟨.axis .zom, .motor, 400, false, 0, 0⟩, ⟨.axis .foc, .motor, 340, false, 1, 0⟩] } }

/-- `h` is in the queue, and every other request is of a later class or arrival. -/
def atHead (h : StartReq) (s : State) : Bool :=
  s.rlm.queue.contains h && s.rlm.queue.all fun q => q = h || classRank h.cls < classRank q.cls ||
    (h.cls = q.cls && h.arrival < q.arrival)

theorem test_witness_HeadGoesFirstAndAFanSheds :
    (∀ s ∈ [headAndTwo .waitStart 1000, headAndTwo .holding 700, headAndTwo .holding 360, headAndTwo .holding 340],
      LinkSettled s ∧ s.drv.window = none ∧ atHead ⟨.fan .fan2, .fan, 350, false, 2, 0⟩ s = true ∧
        spacingAllows (advanceTo (spacingMoment s.rlm.grants) s).now s.rlm.grants = true) ∧
    ((headAndTwo .waitStart 1000).rlm.sum + ratedCurrent .fan2 ≤ 1000 ∧
      700 < (headAndTwo .holding 700).rlm.sum + ratedCurrent .fan2 ∧
      (headAndTwo .holding 700).rlm.sum + ratedCurrent .fan2 ≤ 700 + 360 ∧
      (headAndTwo .holding 360).rlm.sum + ratedCurrent .fan2 ≤ 360 + 360 ∧
      340 + 360 < (headAndTwo .holding 340).rlm.sum + ratedCurrent .fan2) ∧
    (∀ s ∈ [zoomAhead 1000, zoomAhead 700],
      LinkSettled s ∧ s.drv.window = none ∧ atHead ⟨.axis .zom, .motor, 400, false, 0, 0⟩ s = true ∧
        partnerOf .zom = none ∧ (s.axis .zom).state = .waitStart ∧ (s.axis .zom).pendingTarget = some 12000 ∧
        (s.axis .zom).origin ≠ .home ∧ spacingAllows (advanceTo (spacingMoment s.rlm.grants) s).now s.rlm.grants = true) ∧
    ((zoomAhead 1000).rlm.sum + (2 * ((zoomAhead 1000).axis .zom).settings.run - 200) ≤ 1000 ∧
      (needNow (advanceTo (spacingMoment (zoomAhead 700).rlm.grants) (zoomAhead 700)) (.axis .zom)).1 = 400 ∧
      700 < (zoomAhead 700).rlm.sum + 400) := by
  refine ⟨?_, ?_, ?_, ?_⟩ <;> decide +kernel

/-- `a` settles until 100 with the given end result and origin, in a recall that owes the axes of `owed`, with the live
geometry staged. -/
def reports (a : Axis) (o : Origin) (x : Option MoveResult) (owed : PerAxis Bool) (st : StartStage) : State :=
  let s := withAxis a (fun r => { r with
    state := .settling, settleMove := true, settleEnd := 100, origin := o, endResult := x }) known
  { s with
    lmm := { s.lmm with
      active := o = .recalled || o = .back, owed := owed, kind := if o = .back then .back else .recalled
      staged := some ⟨noOffsets, .manual, 120⟩ }
    start := { s.start with stage := st } }

theorem test_witness_SettleExpiryReportsTheEnd :
    (∀ x ∈ [none, some MoveResult.stopped], ∀ owed ∈ [⟨false, false, true, false⟩, (⟨true, false, true, false⟩ : PerAxis Bool)],
      ∀ st ∈ [StartStage.done, .awaitRecall],
      let s := reports .zom .recalled x owed st
      LinkSettled s ∧ (s.axis .zom).state = .settling ∧ (s.axis .zom).settleMove = true ∧
        s.now ≤ (s.axis .zom).settleEnd ∧ s.rlm.queue = [] ∧ s.lmm.active = true ∧ s.lmm.owed.get .zom = true ∧
        (s.axis .zom).endResult = x ∧ (s.axis .zom).profile = .rest) ∧
    (∀ o ∈ [Origin.user, .recalled, .back, .comp, .home], ∀ x ∈ [none, some MoveResult.thermal], ∀ k ∈ [true, false],
      let s := reports .foc o x ⟨false, false, false, true⟩ .done
      let t := { s with fcp := { s.fcp with offsetKnown := k, offsetNow := -72 } }
      LinkSettled t ∧ (t.axis .foc).state = .settling ∧ (t.axis .foc).origin = o ∧ (t.axis .foc).referenced = true ∧
        t.now ≤ (t.axis .foc).settleEnd ∧ t.rlm.queue = [] ∧ t.fcp.offsetKnown = k ∧ (t.axis .foc).profile = .rest ∧
        (t.axis .foc).position - t.fcp.offsetNow < 2 ^ 31 ∧ -2 ^ 31 ≤ (t.axis .foc).position - t.fcp.offsetNow) ∧
    (∀ l ∈ [[], [Axis.foc, .hsh]], ∀ slot ∈ [none, some 11],
      let s := reports .zom .home none (PerAxis.all false) (.homing l (some .zom))
      let t := { s with sto := { s.sto with powerOnSlot := slot } }
      LinkSettled t ∧ (t.axis .zom).origin = .home ∧ t.start.stage = .homing l (some .zom) ∧ t.sto.powerOnSlot = slot ∧
        t.rlm.queue = [] ∧ Hears (.ready t.start.kind (referencedFlags t) t.sto.defaulted .none) (t.port .main)) ∧
    (let s := reports .zom .user none ⟨false, false, true, false⟩ .done
     s.lmm.active = false ∧ (s.axis .zom).origin = .user) := by
  refine ⟨?_, ?_, ?_, ?_⟩ <;> decide +kernel

/-- HSH cruises one low-load reading short of a stall, CH0's check runs until 5, and VSH is in the given state. -/
def shiftFaults (b : BrakeState) (q : AxisState) : State :=
  let s := withAxis .hsh (fun r => { r with
      state := .moving, phase := .cruise, speedClass := .normal, lowLoad := 3, profile := .cruise, leg := .toTarget })
    (withAxis .vsh (fun r => { r with state := q }) (shiftHolds b known))
  s.setChan .ch0 { s.chan .ch0 with check := some 5 }

theorem test_witness_ShiftAndSolenoidFaultsForceTheEngage :
    (∀ b ∈ [BrakeState.released, .releasing, .engaging, .engaged, .faulted],
      ∀ q ∈ [AxisState.moving, .homing, .settling, .holding, .waitStart, .parked, .faulted],
      let s := shiftFaults b q
      LinkSettled s ∧ s.rlm.queue = [] ∧ (allAxes.all fun a => (s.axis a).origin = .user) = true ∧ partnerOf .hsh = some .vsh ∧
        (s.axis .hsh).granted = false ∧ s.brk.releaseQueued = false ∧ (s.axis .hsh).state = .moving ∧
        (s.axis .hsh).phase = .cruise ∧ (s.axis .hsh).speedClass ≠ .slow ∧
        (39 : Byte).toNat < (s.axis .hsh).settings.stall ∧ (s.axis .hsh).lowLoad = 3 ∧ ownerOf .ch0 = some .hsh ∧
        (s.chan .ch0).level.isSome = true ∧ 1400 < 1401 ∧ (s.chan .ch0).check = some 5 ∧ s.now ≤ 5 ∧
        (s.axis .vsh).state = q ∧ s.brk.state = b ∧ (s.port .main).Idle ∧
        Hears (.motionDone .hsh .user .stall 0) (s.port .main)) ∧
    (let s := (shiftReleasing true true none).setChan .ch8
      { (shiftReleasing true true none).chan .ch8 with check := some 5 }
     LinkSettled s ∧ s.rlm.queue = [] ∧ s.brk.state = .releasing ∧ coilsFollow s = true ∧ (s.chan .ch8).check = some 5 ∧
      s.now ≤ 5 ∧ (s.axis .hsh).state = .waitStart ∧ (s.axis .vsh).state = .holding ∧
      (allAxes.all fun a => (s.axis a).origin = .user) = true) ∧
    (∀ q ∈ [AxisState.moving, .homing, .settling, .holding],
      let s := withAxis .vsh (fun r => { r with state := q }) allDriven
      LinkSettled s ∧ s.rlm.queue = [] ∧ s.brk.state = .released ∧ (s.chan .ch8).level.isSome = true ∧
        (s.axis .vsh).state = q ∧ Hears (.fault (.channel .ch8 .overcurrent)) (s.port .main) ∧
        (allAxes.all fun a => (s.axis a).origin = .user) = true) :=
  by refine ⟨?_, ?_, ?_⟩ <;> decide +kernel

theorem test_witness_BrakeSetAndClear :
    (LinkReady .main rest ∧ rest.brk.state ≠ .faulted) ∧
    (LinkReady .main (brakeDown true) ∧ (brakeDown true).brk.state = .faulted ∧ (brakeDown true).brk.clampPending = true) ∧
    (∀ x ∈ [AxisState.holding, .settling, .parked, .faulted, .waitStart],
      let s := withAxis .vsh (fun r => { r with state := x }) (brakeDown false)
      LinkReady .main s ∧ s.brk.state = .faulted ∧ s.brk.clampPending = false ∧ s.rlm.queue = [] ∧
        (s.axis .vsh).state = x ∧ (s.axis .hsh).state = .parked) ∧
    (LinkReady .service (brakeDown false) ∧ (brakeDown false).brk.state = .faulted ∧
      (brakeDown false).brk.clampPending = false ∧ (brakeDown false).axc.hsh.state ≠ .holding ∧
      (brakeDown false).axc.vsh.state ≠ .holding ∧ (brakeDown false).rlm.queue = []) ∧
    (LinkReady .service rest ∧ shiftDriven rest = false) ∧
    (LinkReady .service (shiftHolds .releasing known) ∧ shiftDriven (shiftHolds .releasing known) = true) ∧
    (LinkReady .service (shiftHolds .engaging known) ∧ shiftDriven (shiftHolds .engaging known) = true ∧
      (shiftHolds .engaging known).rlm.queue = []) ∧
    (let s := shiftHolds .engaged { known with rlm := { known.rlm with budget := 900 } }
     LinkReady .service s ∧ s.brk.state = .engaged ∧ shiftDriven s = true ∧ s.brk.releaseQueued = false ∧
      s.rlm.queue = [] ∧ s.drv.window = none ∧ spacingAllows s.now s.rlm.grants = true ∧
      s.rlm.sum + s.brk.settings.hit ≤ s.rlm.budget) ∧
    (let s := shiftHolds .engaged { known with rlm := { known.rlm with budget := 899 } }
     LinkReady .service s ∧ s.rlm.budget < s.rlm.sum + s.brk.settings.hit) ∧
    (let s := shiftHolds .engaged { known with rlm := { known.rlm with grants := [0] } }
     LinkReady .service s ∧ spacingAllows s.now s.rlm.grants = false) ∧
    (let s := withAxis .vsh (fun r => { r with state := .moving, profile := .cruise, leg := .toTarget })
      (shiftHolds .released known)
     LinkReady .service s ∧ s.brk.state = .released ∧ s.rlm.queue = [] ∧ (s.axis .hsh).state = .holding ∧
      (s.axis .vsh).state = .moving) :=
  by refine ⟨?_, ?_, ?_, ?_, ?_, ?_, ?_, ?_, ?_, ?_, ?_⟩ <;> decide +kernel

theorem test_witness_BrakeIsReleasedEngagedAndCleared :
    (LinkSettled { rest with brk := { rest.brk with timer := some 5 } } ∧ rest.brk.state ≠ .releasing) ∧
    (∀ s ∈ [shiftReleasing true true none, shiftReleasing true true (some .engage), shiftReleasing false true none,
        shiftReleasing true false none],
      LinkSettled s ∧ s.brk.timer = some 80 ∧ s.now ≤ 80 ∧ s.brk.state = .releasing ∧ coilsFollow s = true ∧
      s.rlm.queue = [] ∧ (s.axis .hsh).granted = true ∧ (s.axis .vsh).granted = false ∧
      (s.axis .hsh).state = .waitStart ∧ (s.axis .vsh).state = .holding ∧ (s.axis .hsh).origin = .user ∧
      (s.port .main).Idle ∧ Hears (.motionDone .hsh .user .brakeFault 0) (s.port .main)) ∧
    CoilsFollowTheStates (shiftReleasing true true none) ∧
    (LinkSettled releasing ∧ releasing.brk.state = .releasing ∧
      19 * ((releasing.chan .ch8).level.getD 0) ≤ 20 * 855 ∧ 20 * 854 < 19 * ((releasing.chan .ch8).level.getD 0) ∧
      8 * 520 + (releasing.chan .ch8).level.getD 0 ≤ 8 * 640 ∧ 8 * 640 < 8 * 528 + (releasing.chan .ch8).level.getD 0) :=
  ⟨by decide +kernel, by decide +kernel, coils_of_decide (by decide +kernel), by decide +kernel⟩

/-- Both shift axes HOLDING, the brake in the given state with its timer at 40. -/
def clamping (st : BrakeState) (pending : Bool) : State :=
  let s := withAxis .hsh (fun r => { r with state := .holding }) (withAxis .vsh (fun r => { r with state := .holding }) rest)
  { s with brk := { s.brk with state := st, clampPending := pending, timer := some 40 } }

theorem test_witness_ClampedCarriageParksTheShiftAxes :
    (LinkSettled (clamping .engaging false) ∧ (clamping .engaging false).brk.timer = some 40 ∧
      (clamping .engaging false).now ≤ 40 ∧ (clamping .engaging false).brk.state = .engaging ∧
      (clamping .engaging false).brk.next = none ∧ (clamping .engaging false).axc.hsh.state = .holding ∧
      (clamping .engaging false).axc.vsh.state = .holding ∧ (clamping .engaging false).rlm.queue = [] ∧
      ¬((clamping .engaging false).brk.state = .faulted ∧ (clamping .engaging false).brk.clampPending = true)) ∧
    (LinkSettled (clamping .faulted true) ∧ (clamping .faulted true).brk.state = .faulted ∧
      (clamping .faulted true).brk.clampPending = true ∧ (clamping .faulted true).brk.state ≠ .engaging ∧
      (clamping .faulted true).axc.hsh.state = .holding ∧ (clamping .faulted true).axc.vsh.state = .holding ∧
      (clamping .faulted true).rlm.queue = []) ∧
    (let s := withAxis .vsh (fun r => { r with state := .settling }) (clamping .engaging false)
     LinkSettled s ∧ s.brk.timer = some 40 ∧ s.now ≤ 40 ∧ s.brk.state = .engaging ∧ s.brk.next = none ∧
      partnerOf .vsh = some .hsh ∧ (s.axis .vsh).state = .settling ∧ (s.axis .hsh).state = .holding ∧
      s.rlm.queue = []) := by
  decide +kernel

theorem test_witness_ClampedCarriageWithAMoveWaiting :
    (∀ n ∈ [none, some BrakeNext.release], ∀ budget ∈ [800, 2400], ∀ w ∈ [none, some 30],
      let s := withAxis .hsh (fun r => { r with state := .waitStart, pendingTarget := some 4000, granted := true })
        (shiftOn (clamping .engaging false))
      let t := { s with
        brk := { s.brk with next := n }, rlm := { s.rlm with budget := budget }, drv := { s.drv with window := w } }
      LinkSettled t ∧ t.brk.timer = some 40 ∧ t.now ≤ 40 ∧ isShift .hsh = true ∧ (t.axis .hsh).state = .waitStart ∧
        t.rlm.queue = [] ∧ t.brk.state = .engaging ∧ t.brk.next = n ∧ t.brk.releaseQueued = false ∧
        shiftDriven t = true ∧ spacingAllows 40 t.rlm.grants = true) ∧
    (let s := withAxis .hsh (fun r => { r with state := .waitStart }) (clamping .faulted true)
     LinkSettled s ∧ s.brk.state = .faulted ∧ s.brk.clampPending = true ∧ s.rlm.queue = [] ∧
      (s.axis .hsh).state = .waitStart) := by
  decide +kernel

theorem test_witness_RailLowFaultsEveryEnergisedAxis :
    (LinkSettled rest ∧ rest.drv.railLow = false) ∧
    (LinkSettled { rest with drv := { rest.drv with railLow := true } }) ∧
    (LinkSettled checking ∧ checking.drv.railLow = false ∧ energised checking .zom = true ∧
      energised checking .foc = false ∧ (checking.axis .foc).state = .parked) := by
  decide +kernel

theorem test_witness_CalibrationOpensJudgesAndCloses :
    (LinkSettled { rest with drv := { rest.drv with due := true } }) ∧
    (LinkSettled checking ∧ checking.drv.due = false ∧ (checking.chan .ch4).level.isSome = true ∧ checking.drv.window = none ∧
      LinkReady .main checking) ∧
    (LinkSettled rest ∧ rest.drv.window = none ∧ (∀ c ∈ allChans, (rest.chan c).level = none) ∧ LinkReady .main rest) ∧
    (LinkSettled (shut rest) ∧ (shut rest).drv.window = some 30 ∧ (shut rest).now ≤ 30 ∧ (shut rest).rlm.queue = [] ∧
      (∀ c ∈ allChans, ¬(clampInt (-64) 63 ((PerChan.all (-48 : Int)).get c) < -48 ∨
        48 < clampInt (-64) 63 ((PerChan.all (-48 : Int)).get c))) ∧
      LinkReady .main (shut rest) ∧ (shut rest).drv.window.isSome = true) ∧ CoilsFollowTheStates (shut rest) ∧
    (let zeros : PerChan Int := ⟨0, 0, 0, 0, 49, 0, 0, 0, -2048⟩
     (48 < clampInt (-64) 63 (zeros.get (chansOf .zom).1)) ∧ clampInt (-64) 63 (zeros.get .ch8) < -48 ∧
      (shut rest).brk.state = .engaged ∧ ((shut rest).axis .foc).state = .parked ∧
      (allChans.filter fun d => decide (clampInt (-64) 63 (zeros.get d) < -48 ∨ 48 < clampInt (-64) 63 (zeros.get d))).head? =
        some .ch4 ∧
      Hears (.fault (.channel .ch4 .calib)) ((shut rest).port .main)) :=
  ⟨by decide +kernel, by decide +kernel, by decide +kernel, by decide +kernel, coils_of_decide (by decide +kernel),
   by decide +kernel⟩

/-- Codes of a calm scan: 34.1 °C at every thermistor, the last three of TLX, TLZ and DIE. -/
def scanCodes (tlx tlz die : Code12) : PerSensor Code12 := ⟨⟨2200, 2200, 2200, 2200, 2200, 2200⟩, tlx, tlz, die, 3000⟩

/-- `rest` inverted for 2.9 s, in mount mode `m`. -/
def inverted (m : MountMode) : State :=
  { rest with
    ssc := { rest.ssc with run := some .ceiling, ceilHold := 2900 }
    geo := { rest.geo with live := { rest.geo.live with mount := m } } }

/-- The live record with the given corners, whose evaluation is due. -/
def keyed (mode : KeyMode) (c : Quad) (due : Bool) : State :=
  { rest with geo := { rest.geo with refreshDue := due, live := { rest.geo.live with geom := ⟨c, mode, 0⟩ } } }

/-- Corners that leave an area just large enough with V at 0. -/
def tightCorners : Quad := ⟨⟨850, 540⟩, ⟨-960, 430⟩, ⟨-960, -540⟩, ⟨960, -540⟩⟩

theorem test_witness_ScanEndPublishesTheSet :
    (rest.now ≤ rest.ssc.nextScan ∧ (40 : Code12).toNat ≤ 40 ∧ 4054 < (4055 : Code12).toNat ∧ 40 < (41 : Code12).toNat ∧
      (4054 : Code12).toNat ≤ 4054 ∧ rest.ssc.chans.thermo.lns.filled = false ∧ LinkSettled rest) ∧
    (∀ m ∈ [MountMode.auto, .floor, .ceiling],
      LinkSettled (inverted m) ∧ (inverted m).geo.live.mount = m ∧
      gives (.scanEnd (scanCodes 2300 1000 1200)) (inverted m) (fun t =>
        t.ssc.ceilHold = 3000 && t.ssc.detected = .ceiling && t.ssc.chans.tlz.smoothed = some 1000) = true) ∧
    gives (.scanEnd (scanCodes 2300 3120 1200)) rest (fun t => t.ssc.run = some .floor && t.ssc.floorHold = 0) = true ∧
    gives (.scanEnd (scanCodes 2300 2048 1200)) rest (fun t => t.ssc.run = none) = true ∧
    (rest.lmm.staged = none ∧ rest.lmm.active = false ∧ rest.axc.zom.referenced = false) ∧
    gives (.scanEnd (scanCodes 2300 3120 1200)) (keyed .auto noOffsets true) (fun t =>
      t.ssc.chans.tlx.flag = .ok && (t.ssc.published.bind fun p => p.pitch) = some 142 && t.geo.live.geom.v ≠ 0) = true ∧
    gives (.scanEnd (scanCodes 3000 3120 1200)) (keyed .auto tightCorners true) (fun t => t.geo.geomHold) = true ∧
    gives (.scanEnd (scanCodes 2048 3120 1200)) (keyed .auto noOffsets false) (fun t =>
      t.geo.phiUsed = 0 && t.geo.bandUsed = 0 && (t.ssc.published.bind fun p => p.pitch) = some 0) = true ∧
    gives (.scanEnd (scanCodes 2300 3120 1200)) (keyed .manual noOffsets true) (fun t => t.geo.refreshDue) = true ∧
    gives (.scanEnd (scanCodes 4070 3120 1200)) (keyed .auto noOffsets true) (fun t => t.geo.refreshDue) = true := by
  decide +kernel

theorem test_witness_ScanEndFormsTheOffset :
    (∀ z ∈ [true, false], ∀ c ∈ [(2200 : Code12), 4070],
      let s := withAxis .zom (fun r => { r with referenced := z }) known
      let codes : PerSensor Code12 := ⟨⟨2200, 2200, c, 2200, 2200, 2200⟩, 2048, 3120, 1200, 3000⟩
      LinkSettled s ∧ s.now ≤ s.ssc.nextScan ∧
      gives (.scanEnd codes) s (fun t => t.axc.zom.referenced = z &&
        (if c = 2200 then t.ssc.chans.thermo.lns.flag = .ok && t.ssc.chans.thermo.lns.smoothed.isSome && t.fcp.offsetKnown
         else t.ssc.chans.thermo.lns.flag = .opened && !t.fcp.offsetKnown)) = true) := by
  decide +kernel

/-- ZOM cruises, FOC holds and HSH waits for its grant, in the regime QUIET. -/
def threeAxes : State :=
  withAxis .hsh (fun r => { r with state := .waitStart, pendingTarget := some 400 })
    (withAxis .foc (fun r => { r with state := .holding }) (zoomOn cruising))

/-- In EMERGENCY with the given holds, every sensor at or above its CRIT at the last scan. -/
def inEmergency (crit held : Nat) : State :=
  let s := inRegime .emergency 900 known
  { s with ths := { s.ths with critHold := PerThermo.all crit, critRun := PerThermo.all true, emergencyHold := held } }

/-- Codes of a scan with AIN at 54.0 °C, above its CRIT. -/
def hotCodes : PerSensor Code12 := ⟨⟨2200, 2200, 2200, 3072, 2200, 2200⟩, 2048, 3120, 1200, 3000⟩

theorem test_witness_ScanEndSupervisesTheHeat :
    (LinkSettled threeAxes ∧ threeAxes.now ≤ threeAxes.ssc.nextScan ∧ threeAxes.rlm.queue = [] ∧
      threeAxes.ths.critRun = PerThermo.all false ∧ threeAxes.ths.regime = .quiet ∧ threeAxes.drv.driverHot = false ∧
      (threeAxes.axis .zom).state = .moving ∧ (threeAxes.axis .foc).state = .holding ∧ isShift .foc = false ∧
      (threeAxes.axis .hsh).state = .waitStart ∧ (threeAxes.axis .vsh).state = .parked ∧ energised threeAxes .zom = true) ∧
    (let s := { shut rest with rlm := { rest.rlm with queue := [⟨.fan .fan1, .fan, 300, false, 0, 0⟩] } }
     LinkSettled s ∧ s.now ≤ s.ssc.nextScan ∧ s.drv.window.isSome = true ∧ s.ths.critRun = PerThermo.all false ∧
      s.drv.driverHot = false ∧ coilsFollow s = true ∧
      gives (.scanEnd (scanCodes 2048 3120 3072)) s (fun t => t.ths.regime = s.ths.regime &&
        t.ssc.chans.die.smoothed = some 2560) = true) ∧
    gives (.scanEnd hotCodes) threeAxes (fun t => t.ths.raw = .emergency && t.ths.regime = .emergency) = true ∧
    gives (.scanEnd (scanCodes 2048 3120 3072)) threeAxes (fun t =>
      t.drv.driverHot && t.ths.regime = .quiet && t.ssc.chans.die.smoothed = some 2560) = true ∧
    (LinkSettled { rest with drv := { rest.drv with driverHot := true } } ∧
      gives (.scanEnd (scanCodes 2048 3120 1200)) { rest with drv := { rest.drv with driverHot := true } } (fun t =>
        !t.drv.driverHot && (t.ssc.chans.map fun r => r.flag) = (rest.ssc.chans.map fun r => r.flag)) = true ∧
      Hears (.fault (.driverHot false)) (rest.port .main)) ∧
    (LinkSettled (inEmergency 9900 300) ∧ (inEmergency 9900 300).ths.regime = .emergency ∧
      gives (.scanEnd hotCodes) (inEmergency 9900 300) (fun t => t.ths.regime = .shutdown && !t.ths.causeEmergency) = true ∧
      gives (.scanEnd hotCodes) (inEmergency 300 59900) (fun t => t.ths.regime = .shutdown && t.ths.causeEmergency) = true ∧
      gives (.scanEnd hotCodes) (inEmergency 300 300) (fun t =>
        t.ths.regime = .emergency && t.ths.critHold.ain = 400 && t.ths.critHold.lsb = 0) = true ∧
      gives (.scanEnd (scanCodes 2048 3120 1200)) (inEmergency 300 300) (fun t => t.ths.regime = .limited) = true) ∧
    gives (.scanEnd (scanCodes 2048 3120 1200)) (inRegime .shutdown 900 rest) (fun t => t.ths.regime = .shutdown) = true ∧
    gives (.scanEnd (scanCodes 2048 3120 1200)) (inRegime .override 900 rest) (fun t => t.ths.regime = .limited) = true ∧
    gives (.scanEnd (scanCodes 2048 3120 1200))
      { inRegime .limited 900 rest with ths := { (inRegime .limited 900 rest).ths with hyst := 100 } }
      (fun t => t.ths.raw = .quiet && t.ths.regime = .limited) = true := by
  decide +kernel

/-- FAN0 RUNNING alone, the others STOPPED at duty 300, compensation off, with the given budget. -/
def oneRunning (budget : Nat) : State :=
  let s := { steady with fcp := { steady.fcp with enabled := false } }
  let s := (s.setFan .fan1 (rest.fanRec .fan1)).setFan .fan2 (rest.fanRec .fan2)
  { s with rlm := { s.rlm with axes := PerAxis.all 0, brake := 0, fans := ⟨260, 0, 0⟩, budget := budget } }

/-- FOC's base is 200 from its position, with compensation on and the window open. -/
def drifted : State :=
  let s := withAxis .foc (fun r => { r with position := 14000 }) (shut known)
  { s with
    ssc := { s.ssc with published := some calmSet }
    fcp := { s.fcp with baseValid := true, base := 14200, offsetKnown := true, offsetNow := 0 } }

/-- FAN1 RUNNING alone at the given duty, whose curves ask for 499; ZOM's start waits, and the spacing has lapsed. -/
def fanFalls (duty : Nat) : State :=
  let s := zoomWaits .user false
  let flat : Curve := ⟨⟨0, 499⟩, ⟨100, 499⟩, ⟨200, 499⟩, ⟨300, 499⟩, ⟨400, 499⟩⟩
  let s := s.setFan .fan1 { s.fanRec .fan1 with state := .running, applied := duty, dutyMin := duty }
  { s with
    fan := { s.fan with curves := s.fan.curves.set .fan1 ⟨flat, flat⟩ }
    rlm := { s.rlm with fans := ⟨0, fanEntry .fan1 duty, 0⟩ } }

/-- R63: a decrease is an examination event, also where FAN1 goes from 500 to 499 and its entry stays 150; a duty that
stays is none. -/
theorem test_duty_decrease_examines :
    gives .controlPeriod (fanFalls 500) (fun t =>
      (t.fanRec .fan1).applied = 499 && t.rlm.fans.fan1 = 150 && (t.axis .zom).state = .moving) = true ∧
    gives .controlPeriod (fanFalls 499) (fun t =>
      (t.fanRec .fan1).applied = 499 && t.rlm.fans.fan1 = 150 && (t.axis .zom).state = .waitStart) = true := by
  refine ⟨?_, ?_⟩ <;> decide +kernel

theorem test_witness_ControlPeriodExaminesAtADecrease :
    let s := fanFalls 500
    LinkSettled s ∧ s.now ≤ s.fan.nextPeriod ∧ partnerOf .zom = none ∧
    s.rlm.queue = [⟨.axis .zom, .motor, 600, false, 0, 0⟩] ∧ (s.axis .zom).state = .waitStart ∧
    (s.axis .zom).origin ≠ .home ∧ (s.axis .zom).pendingTarget = some 12000 ∧ s.drv.window = none ∧
    spacingAllows s.fan.nextPeriod s.rlm.grants = true ∧
    s.rlm.sum + (2 * (s.axis .zom).settings.run - s.rlm.axes.get .zom) ≤ s.rlm.budget ∧
    s.ths.regime ≠ .emergency ∧ s.ths.regime ≠ .shutdown ∧ compHold (advanceTo s.fan.nextPeriod s) ≠ .none ∧
    (∀ f ∈ allFans, (s.fanRec f).state = .running → s.rlm.fans.get f = fanEntry f (s.fanRec f).applied ∧
      min (demandOf s f) ((capNow s f).getD (demandOf s f)) ≤ (s.fanRec f).applied) ∧
    (s.fanRec .fan1).state = .running ∧
    min (demandOf s .fan1) ((capNow s .fan1).getD (demandOf s .fan1)) < (s.fanRec .fan1).applied := by
  decide +kernel

theorem test_witness_ControlPeriodSteersTheFans :
    (let s := oneRunning 1000
     LinkSettled s ∧ (allFans.all fun f => (s.fanRec f).lowCount ≤ 3) = true ∧ s.now ≤ s.fan.nextPeriod ∧
      s.rlm.queue = [] ∧ s.ths.regime ≠ .emergency ∧ s.ths.regime ≠ .shutdown ∧
      compHold (advanceTo s.fan.nextPeriod s) ≠ .none ∧
      (s.fanRec .fan1).state ≠ .running ∧ (s.fanRec .fan1).applied < min (demandOf s .fan1) 650 ∧
      (s.fanRec .fan0).state = .running ∧ s.rlm.fans.get .fan0 = fanEntry .fan0 (s.fanRec .fan0).applied ∧
      (s.fanRec .fan0).applied < min (demandOf s .fan0) 750 ∧ RailSound s ∧
      (∀ g ∈ allFans, g ≠ .fan0 → (s.fanRec g).state ≠ .running) ∧
      fanEntry .fan0 450 ≤ s.rlm.budget - s.rlm.sum + s.rlm.fans.get .fan0) ∧
    (let s := oneRunning 280
     RailSound s ∧ s.rlm.budget - s.rlm.sum + s.rlm.fans.get .fan0 < fanEntry .fan0 450) ∧
    (let s := (oneRunning 1000).setFan .fan0 { (oneRunning 1000).fanRec .fan0 with applied := 750 }
     let t := { s with rlm := { s.rlm with fans := ⟨488, 0, 0⟩ } }
     min (demandOf t .fan0) 750 ≤ (t.fanRec .fan0).applied ∧ (t.fanRec .fan0).state = .running ∧
      t.rlm.fans.get .fan0 = fanEntry .fan0 (t.fanRec .fan0).applied) ∧
    (let r := fun (pulses low : Nat) => { (oneRunning 1000).fanRec .fan0 with pulses := pulses, lowCount := low }
     (r 0 2).state = .running ∧ (r 0 2).wholePeriod = true ∧
      2000 * min 65535 (30 * (r 0 2).pulses) < ratedRpm .fan0 * (r 0 2).dutyMin ∧ (r 0 2).lowCount = 2 ∧
      (r 0 2).fanFault = false ∧ ¬(2000 * min 65535 (30 * (r 100 2).pulses) < ratedRpm .fan0 * (r 100 2).dutyMin)) ∧
    (let s := drifted
     let s' := advanceTo s.fan.nextPeriod s
     LinkSettled s ∧ s.now ≤ s.fan.nextPeriod ∧ s.rlm.queue = [] ∧ s.drv.window.isSome = true ∧ compHold s' = .none ∧
      motionCheck s' .foc .absolute = none ∧ zeroLength s'.axc.foc (compTarget s') = false) ∧
    (∀ r ∈ [Regime.emergency, .shutdown],
      let s := inRegime r 900 (oneRunning 1000)
      LinkSettled s ∧ s.ths.regime = r ∧ s.now ≤ s.fan.nextPeriod ∧ s.rlm.queue = [] ∧ (s.fanRec .fan0).state = .running ∧
        (s.fanRec .fan0).applied < 1000 ∧ (s.fanRec .fan1).state ≠ .running) ∧
    (LinkSettled steady ∧ steady.now ≤ steady.fan.nextPeriod ∧ steady.rlm.queue = [] ∧
      (∀ f ∈ allFans, (steady.fanRec f).state = .running ∧
        steady.rlm.fans.get f = fanEntry f (steady.fanRec f).applied) ∧
      (steady.fanRec .fan0).applied < min (demandOf steady .fan0) 750) :=
  by refine ⟨?_, ?_, ?_, ?_, ?_, ?_, ?_⟩ <;> decide +kernel

theorem test_witness_FanEventsActOnTheirFan :
    (LinkSettled rest ∧ (rest.fanRec .fan1).state ≠ .spinup) ∧
    (let s := rest.setFan .fan0 { rest.fanRec .fan0 with state := .spinup, spinTimer := some 2000 }
     LinkSettled s ∧ (s.fanRec .fan0).state = .spinup ∧ (s.fanRec .fan0).spinTimer = some 2000 ∧ s.now ≤ 2000 ∧
      s.rlm.queue = []) := by
  decide +kernel

theorem test_witness_WarpLinkAnswersItsEvents :
    (LinkSettled rest ∧ rest.wrp.link ≠ .posted ∧ LinkReady .main rest ∧ rest.wrp.last = none) ∧
    (LinkSettled posted ∧ posted.wrp.link = .posted ∧ posted.wrp.sent = some (plain 3) ∧ posted.wrp.ackTimer = some 120 ∧
      posted.now ≤ 120 ∧ posted.wrp.pending = some (plain 4) ∧ LinkReady .main posted) ∧
    (let s := { posted with wrp := { posted.wrp with pending := none } }
     LinkSettled s ∧ s.wrp.link = .posted ∧ s.wrp.pending = none) ∧
    (let s := { posted with wrp := { posted.wrp with link := .stalled, pending := none, ackTimer := none } }
     LinkReady .main s ∧ s.wrp.link ≠ .posted ∧ s.wrp.last = some (plain 4)) :=
  ⟨by decide +kernel, by decide +kernel, by decide +kernel, by decide +kernel⟩

end Sys2Proof.Tests
end

section
/-! PROOFS. AXIS_CLEAR (R26): what its owner makes of it in each case, and the reply that follows. -/

namespace Sys2Proof.Machine
open Sys2Proof

/-! ### What a reply leaves unchanged -/

@[simp] theorem replied_axis (p : Port) (tag : Byte) (r : Request) (a : Answer) (s : State) (b : Axis) :
    (replied p tag r a s).axis b = s.axis b := rfl

@[simp] theorem replied_chan (p : Port) (tag : Byte) (r : Request) (a : Answer) (s : State) (c : Chan) :
    (replied p tag r a s).chan c = s.chan c := rfl

@[simp] theorem replied_fcp (p : Port) (tag : Byte) (r : Request) (a : Answer) (s : State) :
    (replied p tag r a s).fcp = s.fcp := rfl

/-- A reply changes the link alone. -/
theorem replied_frame (p : Port) (tag : Byte) (r : Request) (a : Answer) (s : State) :
    replied p tag r a s = { s with lnk := (replied p tag r a s).lnk } := rfl

/-- The reply stands on the transmitter of its port. -/
theorem replied_replies (p : Port) (tag : Byte) (r : Request) (a : Answer) (s : State) :
    Replies p tag r a (replied p tag r a s) := by
  simp [Replies, replied]

/-- The reply frees the serving slot, so a request whose owner changes nothing leaves only its reply. -/
@[simp] theorem replied_received (p : Port) (tag : Byte) (r : Request) (a : Answer) (s : State) :
    replied p tag r a (received p tag r s) = replied p tag r a s := by
  simp [replied, received]

/-! ### An unreferenced axis (R5, R158) -/

/-- An axis made unreferenced: its own flag, and with FOC the validity of the focus base. -/
theorem unreference_eq (a : Axis) (s : State) :
    unreference a s = { s.setAxis a { s.axis a with referenced := false } with
      fcp := { s.fcp with baseValid := s.fcp.baseValid && a ≠ .foc } } := by
  by_cases h : a = .foc
  · simp [unreference, invalidateBase, h]
  · simp only [unreference, h, if_false, decide_true, ne_eq, not_false_eq_true, Bool.and_true]
    rfl

@[simp] theorem unreference_axis_same (a : Axis) (s : State) :
    (unreference a s).axis a = { s.axis a with referenced := false } := by
  rw [unreference_eq]; exact axis_setAxis s a _

theorem unreference_axis_of_ne {a b : Axis} (s : State) (h : b ≠ a) : (unreference a s).axis b = s.axis b := by
  rw [unreference_eq]; exact axis_setAxis_of_ne s _ h

/-! ### The latches of an axis's channels (R26, R27) -/

/-- The two channels of an axis are those it owns. -/
theorem ownerOf_eq_some_iff {c : Chan} {a : Axis} : ownerOf c = some a ↔ c = (chansOf a).1 ∨ c = (chansOf a).2 := by
  cases a <;> cases c <;> decide

theorem chansOf_ne (a : Axis) : (chansOf a).2 ≠ (chansOf a).1 := by cases a <;> decide

@[simp] theorem clearAxisChans_axis (a b : Axis) (s : State) : (clearAxisChans a s).axis b = s.axis b := rfl

/-- The latches clear on the channels the axis owns, and on no other. -/
theorem clearAxisChans_chan (a : Axis) (s : State) (c : Chan) :
    (clearAxisChans a s).chan c = if ownerOf c = some a then (s.chan c).clearAxisLatches else s.chan c := by
  simp only [clearAxisChans, ownerOf_eq_some_iff]
  by_cases h2 : c = (chansOf a).2
  · subst h2
    simp [chan_setChan_of_ne _ _ (chansOf_ne a)]
  · rw [chan_setChan_of_ne _ _ h2]
    by_cases h1 : c = (chansOf a).1
    · subst h1; simp
    · rw [chan_setChan_of_ne _ _ h1, if_neg (by simp [h1, h2])]

/-- Clearing the latches changes the channels alone. -/
theorem clearAxisChans_frame (a : Axis) (s : State) :
    clearAxisChans a s = { s with drv := { s.drv with chans := (clearAxisChans a s).drv.chans } } := rfl

/-! ### The cleared axis (R26) -/

/-- A FAULTED axis cleared: its channels' latches clear, and it is PARKED and unreferenced. -/
def clearedAxis (a : Axis) (s : State) : State :=
  (clearAxisChans a (unreference a s)).setAxis a
    { (unreference a s).axis a with state := .parked, faultCause := none }

@[simp] theorem clearedAxis_axis_same (a : Axis) (s : State) :
    (clearedAxis a s).axis a = { s.axis a with state := .parked, faultCause := none, referenced := false } := by
  simp [clearedAxis]

theorem clearedAxis_axis_of_ne {a b : Axis} (s : State) (h : b ≠ a) : (clearedAxis a s).axis b = s.axis b := by
  simp [clearedAxis, axis_setAxis_of_ne _ _ h, unreference_axis_of_ne s h]

@[simp] theorem clearedAxis_chan (a : Axis) (s : State) (c : Chan) :
    (clearedAxis a s).chan c = if ownerOf c = some a then (s.chan c).clearAxisLatches else s.chan c := by
  simp [clearedAxis, clearAxisChans_chan]

@[simp] theorem clearedAxis_fcp (a : Axis) (s : State) :
    (clearedAxis a s).fcp = { s.fcp with baseValid := s.fcp.baseValid && a ≠ .foc } := by
  rw [clearedAxis, setAxis_fcp, clearAxisChans_frame, unreference_eq]

/-- Clearing an axis changes axis records, channel records and the validity of the focus base alone. -/
theorem clearedAxis_frame (a : Axis) (s : State) :
    clearedAxis a s = { s with
      axc := (clearedAxis a s).axc, drv := { s.drv with chans := (clearedAxis a s).drv.chans },
      fcp := (clearedAxis a s).fcp } := by
  rw [clearedAxis, unreference_eq]; rfl

/-- The link and the store take no part, so a request in service stays so. -/
theorem InService.clearedAxis {p : Port} {tag : Byte} {r : Request} {s : State} (h : InService p tag r s) (a : Axis) :
    InService p tag r (clearedAxis a s) := by
  refine h.of_eq ?_ ?_ ?_ <;> rw [clearedAxis_frame]

/-! ### The four answers of the axis controller (R26) -/

/-- A cause that stands is DRIVER_HOT or RAIL_LOW, with its condition present. -/
theorem causeStands_iff {s : State} {a : Axis} :
    causeStands s a = true ↔
      (s.axis a).faultCause = some .driverHot ∧ s.drv.driverHot = true ∨
      (s.axis a).faultCause = some .railLow ∧ s.drv.railLow = true := by
  simp [causeStands]

theorem askClear_outside {b : Byte} (s : State) (h : axisOf b = none) : askClear b s = (s, refuse .range) := by
  simp only [askClear, h]

theorem askClear_not_faulted {b : Byte} {a : Axis} {s : State} (h : axisOf b = some a) (hf : (s.axis a).state ≠ .faulted) :
    askClear b s = (s, okAnswer) := by
  simp only [askClear, h, if_pos hf]

theorem askClear_standing {b : Byte} {a : Axis} {s : State} (h : axisOf b = some a) (hf : (s.axis a).state = .faulted)
    (hc : causeStands s a = true) : askClear b s = (s, refuse .state) := by
  simp [askClear, h, hf, hc]

theorem askClear_cleared {b : Byte} {a : Axis} {s : State} (h : axisOf b = some a) (hf : (s.axis a).state = .faulted)
    (hc : causeStands s a = false) : askClear b s = (clearedAxis a s, okAnswer) := by
  simp [askClear, clearedAxis, h, hf, hc]

/-! ### The request on a ready port (R168, R169) -/

/-- AXIS_CLEAR is delivered at once: `t` and `x` are what the axis controller makes of it. -/
theorem exec_axisClear {p : Port} {tag b : Byte} {s t : State} {x : Answer} (h : LinkReady p s)
    (hd : askClear b (received p tag (.axisClear b) s) = (t, x)) (ht : InService p tag (.axisClear b) t) :
    exec (.axisClear p tag b) s = .next (replied p tag (.axisClear b) x t) := by
  have hdel : deliver p (.axisClear b) (received p tag (.axisClear b) s) = (t, some x) := congrArg atOnce hd
  exact congrArg Host.Outcome.next (arrive_ready h rfl hdel ht)

/-- An answer that changes nothing leaves its reply alone. -/
theorem exec_axisClear_unchanged {p : Port} {tag b : Byte} {s : State} {x : Answer} (h : LinkReady p s)
    (hd : askClear b (received p tag (.axisClear b) s) = (received p tag (.axisClear b) s, x)) :
    exec (.axisClear p tag b) s = .next (replied p tag (.axisClear b) x s) := by
  rw [exec_axisClear h hd (inService_received h tag _), replied_received]

/-- A FAULTED axis whose cause no longer stands is cleared, and the request is answered OK. -/
theorem exec_axisClear_cleared {p : Port} {s : State} {a : Axis} {b : Byte} (tag : Byte) (h : LinkReady p s)
    (hb : axisOf b = some a) (hf : (s.axis a).state = .faulted) (hc : causeStands s a = false) :
    exec (.axisClear p tag b) s =
      .next (replied p tag (.axisClear b) okAnswer (clearedAxis a (received p tag (.axisClear b) s))) :=
  exec_axisClear h (askClear_cleared hb hf hc) ((inService_received h tag _).clearedAxis a)

/-- Settles O24: R26's cases, each by the answer of the axis controller, with the frame of a cleared axis. -/
theorem axisClearParksAFaultedAxis : Obligations.AxisClearParksAFaultedAxis := by
  refine ⟨fun p tag b s h hb => exec_axisClear_unchanged h (askClear_outside _ hb), fun p tag b s a h hb =>
    ⟨fun hf => exec_axisClear_unchanged h (askClear_not_faulted hb hf), fun hf => ⟨fun hc => ?_, fun hHot hLow => ?_⟩⟩⟩
  case refine_1 => exact exec_axisClear_unchanged h (askClear_standing hb hf (causeStands_iff.mpr hc))
  case refine_2 =>
    have hc : causeStands s a = false := by
      rw [← Bool.not_eq_true, causeStands_iff, not_or]
      exact ⟨hHot, hLow⟩
    refine ⟨_, exec_axisClear_cleared tag h hb hf hc, replied_replies .., ?_, ?_, ?_, ?_, ?_⟩
    · simp
    · intro a' ha
      simp [clearedAxis_axis_of_ne _ ha]
    · intro c
      simp [Channel.clearAxisLatches]
    · simp
    · rw [replied_frame, clearedAxis_frame]; rfl

end Sys2Proof.Machine
end

section
/-! PROOFS. THERMAL_LIMIT_SET (R154): the limit L it forms again (R150), the notice that tells it (R151), what its owner
makes of the request in each case, and the reply that follows. -/

namespace Sys2Proof.Machine
open Sys2Proof

/-! ### What a reply leaves unchanged -/

@[simp] theorem replied_ths (p : Port) (tag : Byte) (r : Request) (a : Answer) (s : State) :
    (replied p tag r a s).ths = s.ths := rfl

/-- A reply takes no notice from a queue. -/
@[simp] theorem replied_queue (p : Port) (tag : Byte) (r : Request) (a : Answer) (s : State) (y : Port) :
    ((replied p tag r a s).port y).queue = (s.port y).queue := by
  cases p <;> cases y <;> rfl

/-- A reply leaves the other port alone. -/
theorem replied_port_of_ne {p y : Port} (tag : Byte) (r : Request) (a : Answer) (s : State) (h : y ≠ p) :
    (replied p tag r a s).port y = s.port y :=
  port_setPort_of_ne s _ h

/-- The reply adds the same to a port whatever else the state holds. -/
theorem replied_port_congr {p y : Port} (tag : Byte) (r : Request) (a : Answer) {s t : State}
    (h : s.port y = t.port y) :
    (replied p tag r a s).port y = (replied p tag r a t).port y := by
  by_cases hp : y = p
  · subst hp; simp [replied, h]
  · rw [replied_port_of_ne _ _ _ _ hp, replied_port_of_ne _ _ _ _ hp, h]

/-- Taking a request into its serving slot leaves every notice queue alone. -/
@[simp] theorem received_queue (p : Port) (tag : Byte) (r : Request) (s : State) (y : Port) :
    ((received p tag r s).port y).queue = (s.port y).queue := by
  cases p <;> cases y <;> rfl

/-! ### A notice of an event on an idle port (R170, R174) -/

/-- While a reply is being formed, the notice waits in the queue. -/
theorem mem_offer_queue {n : Notice} {r : PortRec} (hr : r.replyReady = none) (ht : r.transmitter = none)
    (hq : r.queue = []) (hn : Hears n r) : n ∈ (r.offer true n).queue := by
  simp [PortRec.offer, PortRec.sendNext, hr, ht, hq, hn]

/-- With no reply being formed, an idle port sends the notice. -/
theorem offer_idle_transmitter {n : Notice} {r : PortRec} (hi : r.Idle) (hn : Hears n r) :
    (r.offer false n).transmitter = some (.notice n) := by
  obtain ⟨-, -, hr, ht, hq⟩ := hi
  simp [PortRec.offer, PortRec.sendNext, hr, ht, hq, hn]

/-- A notice produced while a request is served reaches every idle port that hears it: it follows the reply on the
request's own port, and is on the transmitter of the other. -/
theorem replied_produce_tells {p y : Port} {s : State} {n : Notice} (h : LinkReady p s) (tag : Byte) (r : Request)
    (a : Answer) (hy : (s.port y).Idle) (hn : Hears n (s.port y)) :
    n ∈ ((replied p tag r a (produce n (received p tag r s))).port y).queue ∨
      ((replied p tag r a (produce n (received p tag r s))).port y).transmitter = some (.notice n) := by
  by_cases hp : y = p
  · left
    subst hp
    obtain ⟨-, -, -, -, hqueue⟩ := hy
    have hin := inService_received h tag r
    rw [replied_queue, produce_port, hin.handling]
    exact mem_offer_queue hin.ready hin.transmitter (by simpa using hqueue) (by simpa [received] using hn)
  · right
    have hport : (received p tag r s).port y = s.port y := port_setPort_of_ne _ _ hp
    have hfree : handling (received p tag r s) y = false := by simp [handling, hport, hy.1]
    rw [replied_port_of_ne _ _ _ _ hp, produce_port, hport, hfree]
    exact offer_idle_transmitter hy hn

/-! ### L of a regime (R150) -/

theorem limitOf_full {r : Regime} {p : CapPriority} (e : Nat) (h : r = .quiet ∨ (r = .limited ∧ p = .coolFirst)) :
    limitOf r p e = 1000 := by
  rcases h with rfl | ⟨rfl, rfl⟩ <;> rfl

theorem limitOf_dimmed {r : Regime} {p : CapPriority} {e : Nat}
    (h : r = .override ∨ (r = .limited ∧ p = .quietFirst)) (he : e ≤ 250) : limitOf r p e = 1000 - 4 * e := by
  have hd : dimmed e = 1000 - 4 * e := if_pos (by omega)
  rcases h with rfl | ⟨rfl, rfl⟩ <;> exact hd

/-! ### A limit table taken (R150, R151, R154) -/

/-- THS's record with a new table and hysteresis, before L is formed again. -/
def withLimits (l : PerThermo Limit) (h : Int) (t : Ths) : Ths := { t with limits := l, hyst := h }

/-- THS's record with L formed again, and notified when it stands 50 or more from the last notified value. -/
def limitFormed (t : Ths) : Ths :=
  let e := excessOf t
  let l := limitOf t.regime t.priority e
  { t with excess := e, limit := l, notified := if 50 ≤ apart l t.notified then l else t.notified }

/-- The LIGHT_LIMIT notice of a record. -/
def limitNotice (t : Ths) : Notice := .lightLimit t.limit t.regime t.priority t.excess

/-- L formed again, and told when it stands 50 or more from the last notified value. -/
theorem formLimit_eq (s : State) :
    formLimit s =
      if 50 ≤ apart (limitFormed s.ths).limit s.ths.notified then
        produce (limitNotice (limitFormed s.ths)) { s with ths := limitFormed s.ths }
      else { s with ths := limitFormed s.ths } := by
  by_cases hd : 50 ≤ apart (limitOf s.ths.regime s.ths.priority (excessOf s.ths)) s.ths.notified <;>
    simp only [formLimit, limitFormed, limitNotice, hd, if_true, if_false]

/-- A new table taken: L is formed again over it. -/
theorem setLimits_eq (l : PerThermo Limit) (h : Int) (s : State) :
    setLimits l h s =
      if 50 ≤ apart (limitFormed (withLimits l h s.ths)).limit s.ths.notified then
        produce (limitNotice (limitFormed (withLimits l h s.ths))) { s with ths := limitFormed (withLimits l h s.ths) }
      else { s with ths := limitFormed (withLimits l h s.ths) } :=
  formLimit_eq _

theorem setLimits_ths (l : PerThermo Limit) (h : Int) (s : State) :
    (setLimits l h s).ths = limitFormed (withLimits l h s.ths) := by
  rw [setLimits_eq]
  split <;> rfl

/-- A new table changes THS's record and, by its notice, the link. -/
theorem setLimits_frame (l : PerThermo Limit) (h : Int) (s : State) :
    setLimits l h s = { s with ths := (setLimits l h s).ths, lnk := (setLimits l h s).lnk } := by
  rw [setLimits_eq]
  split <;> rfl

/-- Less than 50 from the last notified value, L is not told. -/
theorem setLimits_lnk_near {l : PerThermo Limit} {h : Int} {s : State}
    (hd : apart (setLimits l h s).ths.limit s.ths.notified < 50) : (setLimits l h s).lnk = s.lnk := by
  rw [setLimits_ths] at hd
  rw [setLimits_eq, if_neg (Nat.not_le.mpr hd)]

/-- At 50 or more from the last notified value, L is told. -/
theorem setLimits_lnk_far {l : PerThermo Limit} {h : Int} {s : State}
    (hd : 50 ≤ apart (setLimits l h s).ths.limit s.ths.notified) :
    (setLimits l h s).lnk = (produce (limitNotice (setLimits l h s).ths) s).lnk := by
  rw [setLimits_ths] at hd ⊢
  rw [setLimits_eq, if_pos hd]
  rfl

/-- A new table, with its notice or without, keeps a request in service. -/
theorem InService.setLimits {p : Port} {tag : Byte} {r : Request} {s : State} (hs : InService p tag r s)
    (l : PerThermo Limit) (h : Int) : InService p tag r (setLimits l h s) := by
  rcases Nat.lt_or_ge (apart (Machine.setLimits l h s).ths.limit s.ths.notified) 50 with hd | hd
  · have hl := setLimits_lnk_near hd
    exact hs.of_eq (congrArg Lnk.main hl) (congrArg Lnk.service hl) (by rw [setLimits_frame])
  · have hl := setLimits_lnk_far hd
    exact (hs.produce _).of_eq (congrArg Lnk.main hl) (congrArg Lnk.service hl) (by rw [setLimits_frame]; rfl)

/-! ### FAN's substitution (R131) -/

/-- The temperature FAN takes of a sensor: its published value, or its HIGH threshold. -/
def fanTemp (x : Pub) (l : Limit) : Int := if x.flag = .ok then x.value.getD l.high else l.high

/-- With a published set, the mapped temperatures are those of the set and the table as they stand. -/
theorem mappedTemps_published {s : State} {q : PubSet} (h : s.ssc.published = some q) :
    let temp := q.chans.thermo.zipWith fanTemp s.ths.limits
    mappedTemps s .fan0 = [temp.lsb, temp.img] ∧ mappedTemps s .fan1 = [temp.ain, temp.psu] ∧
      mappedTemps s .fan2 = [temp.aex, temp.lsb] := by
  simp [mappedTemps, mappedTemp, h, fanTemp, PerThermo.zipWith]

/-! ### The three answers of the thermal supervisor (R154, R172) -/

/-- The table of a request, its thresholds clamped. -/
def takenLimits (w : LimitsWire) : PerThermo Limit := (w.sensors.map wireLimit).map clampLimit

/-- The hysteresis of a request, clamped. -/
def takenHyst (w : LimitsWire) : Int := clampInt 0 100 w.hyst.toInt

/-- The answer to a table taken: CLAMPED says whether a value was clamped. -/
def takenAnswer (w : LimitsWire) : Answer :=
  ⟨.ok, clampedFlag (takenLimits w ≠ w.sensors.map wireLimit || takenHyst w ≠ w.hyst.toInt), []⟩

theorem all_orderedLimit_iff (t : PerThermo Limit) :
    t.toList.all orderedLimit = true ↔
      ∀ l ∈ t.toList, l.warn < l.high ∧ l.high < l.crit ∧ l.crit ≤ l.warn + 200 := by
  simp only [List.all_eq_true, orderedLimit, Bool.and_eq_true, decide_eq_true_eq, and_assoc]

theorem askLimits_main (w : LimitsWire) (s : State) : askLimits .main w s = (s, maskedAnswer) := rfl

theorem askLimits_unordered {w : LimitsWire} (s : State) (h : ¬(takenLimits w).toList.all orderedLimit = true) :
    askLimits .service w s = (s, refuse .range) := by
  unfold takenLimits at h
  simp only [askLimits, if_neg h, reduceCtorEq, if_false]

theorem askLimits_ordered {w : LimitsWire} (s : State) (h : (takenLimits w).toList.all orderedLimit = true) :
    askLimits .service w s = (setLimits (takenLimits w) (takenHyst w) s, takenAnswer w) := by
  unfold takenLimits at h
  simp only [askLimits, if_pos h, reduceCtorEq, if_false]
  rfl

/-! ### The request on a ready port (R168, R169) -/

/-- THERMAL_LIMIT_SET is delivered at once: `t` and `x` are what the thermal supervisor makes of it. -/
theorem exec_thermalLimitSet {p : Port} {tag : Byte} {w : LimitsWire} {s t : State} {x : Answer} (h : LinkReady p s)
    (hd : askLimits p w (received p tag (.thermalLimitSet w) s) = (t, x))
    (ht : InService p tag (.thermalLimitSet w) t) :
    exec (.thermalLimitSet p tag w) s = .next (replied p tag (.thermalLimitSet w) x t) := by
  have hdel : deliver p (.thermalLimitSet w) (received p tag (.thermalLimitSet w) s) = (t, some x) := congrArg atOnce hd
  exact congrArg Host.Outcome.next (arrive_ready h rfl hdel ht)

/-- An answer that changes nothing leaves its reply alone. -/
theorem exec_thermalLimitSet_unchanged {p : Port} {tag : Byte} {w : LimitsWire} {s : State} {x : Answer}
    (h : LinkReady p s) (hd : ∀ t, askLimits p w t = (t, x)) :
    exec (.thermalLimitSet p tag w) s = .next (replied p tag (.thermalLimitSet w) x s) := by
  rw [exec_thermalLimitSet h (hd _) (inService_received h tag _), replied_received]

/-- The state after a table taken from SERVICE: its reply over the new table. -/
def limitsReplied (tag : Byte) (w : LimitsWire) (s : State) : State :=
  replied .service tag (.thermalLimitSet w) (takenAnswer w)
    (setLimits (takenLimits w) (takenHyst w) (received .service tag (.thermalLimitSet w) s))

theorem exec_thermalLimitSet_ordered {w : LimitsWire} {s : State} (tag : Byte) (h : LinkReady .service s)
    (ho : (takenLimits w).toList.all orderedLimit = true) :
    exec (.thermalLimitSet .service tag w) s = .next (limitsReplied tag w s) :=
  exec_thermalLimitSet h (askLimits_ordered _ ho) ((inService_received h tag _).setLimits _ _)

@[simp] theorem limitsReplied_ths (tag : Byte) (w : LimitsWire) (s : State) :
    (limitsReplied tag w s).ths = limitFormed (withLimits (takenLimits w) (takenHyst w) s.ths) := by
  rw [limitsReplied, replied_ths, setLimits_ths, received_ths]

/-- The request changes THS's record and the link alone. -/
theorem limitsReplied_frame (tag : Byte) (w : LimitsWire) (s : State) :
    limitsReplied tag w s = { s with ths := (limitsReplied tag w s).ths, lnk := (limitsReplied tag w s).lnk } := by
  rw [limitsReplied, replied_frame, setLimits_frame]; rfl

/-- Less than 50 from the last notified value, the request leaves the notices as they were (R151). -/
theorem limitsReplied_near {tag : Byte} {w : LimitsWire} {s : State}
    (hd : apart (limitsReplied tag w s).ths.limit s.ths.notified < 50) :
    (limitsReplied tag w s).ths.notified = s.ths.notified ∧
      ∀ y, ((limitsReplied tag w s).port y).queue = (s.port y).queue := by
  refine ⟨?_, fun y => ?_⟩
  · rw [limitsReplied_ths] at hd ⊢
    exact if_neg (Nat.not_le.mpr hd)
  · rw [limitsReplied, replied_queue, State.port, setLimits_lnk_near hd]
    exact received_queue ..

/-- At 50 or more from the last notified value, L is the last notified one, and every idle port that hears the kind has
its notice (R151, R174). -/
theorem limitsReplied_far {tag : Byte} {w : LimitsWire} {s : State} (h : LinkReady .service s)
    (hd : 50 ≤ apart (limitsReplied tag w s).ths.limit s.ths.notified) :
    (limitsReplied tag w s).ths.notified = (limitsReplied tag w s).ths.limit ∧
      ∀ y, (s.port y).Idle → Hears (limitNotice (limitsReplied tag w s).ths) (s.port y) →
        limitNotice (limitsReplied tag w s).ths ∈ ((limitsReplied tag w s).port y).queue ∨
          ((limitsReplied tag w s).port y).transmitter = some (.notice (limitNotice (limitsReplied tag w s).ths)) := by
  refine ⟨?_, fun y hy hn => ?_⟩
  · rw [limitsReplied_ths] at hd ⊢
    exact if_pos hd
  · have hlnk := setLimits_lnk_far (s := received .service tag (.thermalLimitSet w) s) hd
    have hport : (limitsReplied tag w s).port y =
        (replied .service tag (.thermalLimitSet w) (takenAnswer w) (produce (limitNotice (limitsReplied tag w s).ths)
          (received .service tag (.thermalLimitSet w) s))).port y :=
      replied_port_congr _ _ _ (congrArg (fun k : Lnk => k.port y) hlnk)
    rw [hport]
    exact replied_produce_tells h tag _ _ hy hn

/-- Settles O34: R154's three answers, with L and its notice (R150, R151) and FAN's substitution (R131) over the new
table. -/
theorem thermalLimitSetReplacesTheTable : Obligations.ThermalLimitSetReplacesTheTable := by
  refine ⟨fun tag w s h => exec_thermalLimitSet_unchanged h (askLimits_main w), fun tag w s h =>
    ⟨fun hno => ?_, fun ho => ?_⟩⟩
  case refine_1 =>
    exact exec_thermalLimitSet_unchanged h fun t => askLimits_unordered t (mt (all_orderedLimit_iff _).mp hno)
  case refine_2 =>
    have hths := limitsReplied_ths tag w s
    have hframe := limitsReplied_frame tag w s
    refine ⟨limitsReplied tag w s, exec_thermalLimitSet_ordered tag h ((all_orderedLimit_iff _).mpr ho),
      replied_replies .., ?_⟩
    have hlimits : (limitsReplied tag w s).ths.limits = takenLimits w := by rw [hths]; rfl
    have hhyst : (limitsReplied tag w s).ths.hyst = takenHyst w := by rw [hths]; rfl
    have hlimit : (limitsReplied tag w s).ths.limit =
        limitOf s.ths.regime s.ths.priority (limitsReplied tag w s).ths.excess := by rw [hths]; rfl
    refine ⟨hlimits, hhyst, by rw [hths]; rfl, by rw [hths]; rfl, by rw [hths]; rfl, by rw [hths]; rfl,
      fun hr => hlimit.trans (limitOf_full _ hr), fun hr he => hlimit.trans (limitOf_dimmed hr he),
      fun hr => hlimit.trans (by rw [hr]; rfl), fun hr => hlimit.trans (by rw [hr]; rfl),
      limitsReplied_near, fun hd => ?notified, by rw [hths]; rfl, fun q hq => ?fans, hlimits, hhyst, hframe⟩
    case notified =>
      obtain ⟨hnot, htold⟩ := limitsReplied_far h hd
      have hnotice : limitNotice (limitsReplied tag w s).ths = .lightLimit (limitsReplied tag w s).ths.limit
          s.ths.regime s.ths.priority (limitsReplied tag w s).ths.excess := by rw [hths]; rfl
      exact ⟨hnot, fun n hn => by rw [hn, ← hnotice]; exact htold⟩
    case fans =>
      have hpub : (limitsReplied tag w s).ssc.published = some q := by rw [hframe]; exact hq
      have hmapped := mappedTemps_published hpub
      rw [hlimits] at hmapped
      exact hmapped

end Sys2Proof.Machine
end
